-- ==== Sys2Proof/Word.lean ====
section
/-! DEFINITION. The words of the part: bytes on its two-wire segments and its port, and the 16-bit addresses of the memory
(65,536 bytes in 512 pages of 128, chapter 00, Numbers and addresses). -/

namespace Sys2Proof

/-- One byte. -/
abbrev Byte := BitVec 8

/-- An address of the memory, 0x0000 to 0xFFFF; from 0xFFFF a read goes on at 0x0000 (R10). -/
abbrev Addr := BitVec 16

end Sys2Proof
end

