-- ==== Sys2Proof/Syntax.lean ====
section
/-! DEFINITION. The commands: one constructor of `Instr` per row of spec/opcode_table.json, in the table's order. The table
names no operands; the operands here are what the rows' rules take from outside the part: the host's bytes and answers, the
memory's bytes and answers, the converter's conversions and the levels of the inputs (log entry 2). -/

namespace Sys2Proof

/-- The direction of an address byte (00, Terms: Address byte). -/
inductive Dir where
  | write
  | read
deriving DecidableEq, Repr

/-- The three window monitors (R48). -/
inductive Monitor where
  | hall
  | temp
  | loadv
deriving DecidableEq, Repr

/-- The two switch inputs (8.3). -/
inductive SwitchInput where
  | caseSwitch
  | coverSwitch
deriving DecidableEq, Repr

/-- How the memory answered a write transaction of a job whose select it acknowledged: every byte acknowledged, NACK to a
word-address byte, or NACK to a data byte (R90, R170, R185). -/
inductive WriteResult where
  | acked
  | wordNack
  | dataNack
deriving DecidableEq, Repr

/-- How a random read of `n` bytes by a job ended: the bytes, or a NACK at the first select, at a word-address byte or at the
select with read direction (R91, R96, R26). -/
inductive ReadResult (n : Nat) where
  | bytes (v : Vector Byte n)
  | selectNack
  | wordNack
  | readSelectNack
deriving DecidableEq, Repr

/-- R17: what made a bus error, a START (`byStart`) or a STOP, and where it fell: in the address byte after a START or repeated START
(`inAddress`), or in a later byte. -/
structure MidByteEdge where
  byStart : Bool
  inAddress : Bool
deriving DecidableEq, Repr

/-- The commands of the KD412. -/
inductive Instr where
  /-- R4: a START or repeated START with its address byte; `ack` is the memory's answer if the byte is carried. Which of the two
  it is follows from the state: a START while a host transaction is in progress is a repeated START. -/
  | addressByte (select : BitVec 7) (dir : Dir) (ack : Bool)
  /-- R5: a byte of a foreign transaction and the receiver's answer. -/
  | foreignByte (byte : Byte) (ack : Bool)
  /-- R6: a word-address byte and the memory's answer. -/
  | wordAddressByte (byte : Byte) (ack : Bool)
  /-- R7: a host data byte, and the memory's answer should it be forwarded. -/
  | hostWriteDataByte (byte : Byte) (ack : Bool)
  /-- R10: the byte read from the memory, and the host's answer. -/
  | hostReadDataByte (byte : Byte) (ack : Bool)
  | hostStop
  /-- R17: a START or a STOP in the middle of a byte. -/
  | busError (e : MidByteEdge)
  | holdLimitExpiry
  /-- R16: a host byte in the cut state. -/
  | cutStateByte (dir : Dir)
  | memoryClockFault
  | jobGrant
  | pollAck
  | pollTimeout
  /-- R13: whether the memory acknowledged both word-address bytes. -/
  | pointerRestoreEnd (ok : Bool)
  | page0ReadDone (r : ReadResult 128)
  | page1ReadDone (r : ReadResult 128)
  | loopLock
  | lossOfLock
  /-- R41: the measurement that replaces the internal correction. -/
  | calibrationDone (measured : BitVec 16)
  /-- R42: the four raw conversions of a frame, after the internal correction, the last one of the frame's auxiliary channel. -/
  | frame (v iL iN aux : BitVec 16)
  | captureComplete
  | monitorStateChange (m : Monitor)
  | blockEnd
  /-- R52: the raw output that has held for 8 periods. -/
  | zcFilterSettle (high : Bool)
  | risingCrossing
  | spendThreshold
  | livePowerUpdate
  | commitWriteDone (r : WriteResult)
  | commitReadbackDone (r : ReadResult 64)
  /-- R96: the end of slot A's read, and that of slot B's, none while slot B is still being read (log entry 24). -/
  | slotSelection (a : ReadResult 64) (b : Option (ReadResult 64))
  | holdExitCheck (r : ReadResult 64)
  /-- R130: the level that has held for 50 ms. -/
  | buttonFilterSettle (pressed : Bool)
  | crossingWaitTimeout
  | zeroCrossDelayEnd
  | pulseEnd
  | settleTimeEnd
  | captureRequestRetry
  | openRelayIlRun
  | overloadTrip
  | limitDelayEnd
  | cleanTimeEnd
  /-- R151: the input, and whether it has been open (or else closed) for 20 ms. -/
  | switchInputFilterSettle (input : SwitchInput) (isOpen : Bool)
  | imbalanceChange
  | reverseChange
  | logAppendWriteDone (r : WriteResult)
  | logSlotReadDone (r : ReadResult 16)
  | powerFailWarning
  | warningClear
  | holdEntryTimerEnd
  | supplyLoss
  | coldStart
  | pselFall
  | pselRise
  | ident
  | status
  /-- R184: the 40 data bytes after the instruction byte. -/
  | key (data : Vector Byte 40)
  /-- R185: the page number byte and the 128 data bytes. -/
  | page (number : Byte) (data : Vector Byte 128)
  | seal
  | restart
  /-- R182: an instruction byte that names no instruction. -/
  | unknownInstruction (code : Byte)
  | pageWriteResult (r : ReadResult 128)
  | pclkRisingEdge (pdi : Bool)
  | pageWriteDone (r : WriteResult)
  | memoryClockSeenHigh
deriving DecidableEq, Repr

end Sys2Proof
end

