-- ==== Sys2Proof/Machine/State.lean ====
section
/-! DEFINITION. The state of the part: one structure per block, as the blocks' state tables give it (1.1, R21, R37, R55, R82,
R100, R124, R148, R164, R173, R181), the lines, and the queue of commands. Every value is plain data. The fields marked MODEL
are the model's own bookkeeping and are named in INVENTORY.md. The values of a cold start stand beside each structure;
`State.reset` is the part right after its supply has first risen. -/

namespace Sys2Proof.Machine

open Sys2Proof

/-! ## Why a step can stop -/

/-- The part has no fault that stops it: every command answers a next state, and what the manual calls a fault, a failure or a
finding is state. The type has no constructor, so no step can answer a fault. -/
inductive Fault where
deriving DecidableEq, Repr

/-- Reasons for which the model gives no meaning. -/
inductive Refusal where
  /-- Raised by `exec` for a command whose row has no meaning in this model yet, with the row's mnemonic. Safe: the model stops
  where the part goes on. No arm raises it. -/
  | notModelled (mnemonic : String)
deriving DecidableEq, Repr

/-! ## Path Unit (chapter 1) -/

/-- R2: the owner of the memory segment. -/
inductive Owner where
  | free
  | host
  | own
deriving DecidableEq, Repr

/-- R3: the part's jobs, in the order in which they start. -/
inductive JobKind where
  | startUpReads
  | urgentCommit
  | commit
  | pageWrite
  | logAppend
  | restore
deriving DecidableEq, Repr

/-- How far the job that holds the segment has come: the transaction or poll in progress (R14, R26, R90, R91, R96, R99, R170,
R172, R185), the last being its pointer restore (R13). -/
inductive JobStage where
  | readPage0
  | readPage1
  | readSlotA
  | readSlotB
  /-- R172: the read of slot (h0 + j) mod K. -/
  | readRing (j : Nat)
  | holdCheck
  /-- R90: the poll that attempt 2 asks for before its write. -/
  | commitPrePoll
  | commitWrite
  | commitPoll
  | commitRead
  | pageWrite
  | pagePoll
  | pageRead
  | logBody
  | logBodyPoll
  | logNumber
  | logNumberPoll
  | restore
deriving DecidableEq, Repr

/-- A job that holds the segment. -/
structure JobRun where
  kind : JobKind
  stage : JobStage
deriving DecidableEq, Repr

/-- The last byte of a read transaction: none read yet, acknowledged by the host, or not (R16). -/
inductive ReadAck where
  | unread
  | acked
  | nacked
deriving DecidableEq, Repr

/-- The phase of the host transaction in progress on the upstream segment (1.1, R16). -/
inductive UpPhase where
  /-- No host transaction. -/
  | idle
  /-- R17: the START that made a bus error has been taken, and its address byte has not come. -/
  | started
  /-- The address byte was answered NACK by the part (cases 1 to 3 of R4). -/
  | refused
  /-- The memory answered NACK to the address byte or to a word-address byte. -/
  | nacked
  /-- A memory-class write address byte has been acknowledged. -/
  | addressed
  /-- Between the word-address bytes: the first one and the memory's answer to it. -/
  | wordHigh (hi : Byte) (acked : Bool)
  /-- Both word-address bytes are acknowledged and no data byte has come. -/
  | pointerSet
  /-- At least one data byte of the write has come. -/
  | writing
  | reading (last : ReadAck)
  | foreignWrite
  | foreignRead (last : ReadAck)
  /-- R16: the cut state. -/
  | cut
deriving DecidableEq, Repr

/-- The window kinds of a page (R28). -/
inductive Window where
  | openPage
  | page0
  | page1
  | sealedPage
  | account
  | log
  | live
  | inbox
deriving DecidableEq, Repr

/-- R14: a transaction of one of the part's own jobs. -/
inductive OwnAct where
  /-- A write transaction: word address and data bytes, ended by STOP. -/
  | write (a : Addr) (bs : List Byte)
  /-- A random read of `n` bytes, the last answered NACK, ended by STOP (R91). -/
  | read (a : Addr) (n : Nat)
  /-- Select polls with write direction until ACK or the limit. -/
  | poll
deriving DecidableEq, Repr

/-- What the part puts on the memory segment. -/
inductive SegAct where
  /-- A START, or a repeated START, with an address byte. -/
  | address (repeated : Bool) (select : BitVec 7) (dir : Dir)
  /-- A byte carried to the memory segment. -/
  | put (b : Byte)
  /-- A byte clocked from the memory segment, with the acknowledge given to it. -/
  | get (ack : Bool)
  | stop
  /-- A transaction of a job, with the select of its address bytes (R1, R14). -/
  | own (select : BitVec 7) (act : OwnAct)
deriving DecidableEq, Repr

/-- The Path Unit's state (1.1). -/
structure Path where
  owner : Owner
  phase : UpPhase
  window : Option Window
  wordAddr : Addr
  /-- MODEL (log entry 5): the host transaction has held a memory-class part. -/
  memClass : Bool
  segOpen : Bool
  /-- MODEL (log entry 35): the STOP by which the part has ended the host's transaction at the first byte of an INBOX or guarded page
  has not been seen to end (R7, R8, R18). -/
  stopping : Bool
  cutPending : Bool
  jobs : List JobKind
  run : Option JobRun
  /-- R12: the mirror pointer, none being UNKNOWN. -/
  mirror : Option Addr
  /-- R12: the host pointer, none being UNKNOWN. -/
  hostPtr : Option Addr
  /-- Crystal periods, as every timer of the part (R38; log entry 3). -/
  holdTime : Nat
  causeStartUp : Bool
  causePower : Bool
  causePage : Bool
  strap : BitVec 3
  stopOwed : Bool
  /-- MODEL (log entry 35): what a job has begun behind the STOP that is owed (R18). -/
  behind : List SegAct
  clockLowTime : Nat
  pollTime : Nat
deriving DecidableEq, Repr

/-- The Path Unit at the start of a cold start (R2, R3, R12, R20, R179 step 1), with the strap pins as sampled. -/
def Path.cold (strap : BitVec 3) : Path where
  owner := .free
  phase := .idle
  window := none
  wordAddr := 0
  memClass := false
  segOpen := false
  stopping := false
  cutPending := false
  jobs := []
  run := none
  mirror := none
  hostPtr := some 0
  holdTime := 0
  causeStartUp := true
  causePower := false
  causePage := false
  strap := strap
  stopOwed := false
  behind := []
  clockLowTime := 0
  pollTime := 0

/-! ## Window Map (chapter 2) -/

/-- 2.2: the kinds of a region record. -/
inductive RegionKind where
  | sealedRegion
  | account
  | log
  | live
  | inbox
deriving DecidableEq, Repr

/-- A region record of the table. -/
structure Region where
  first : Nat
  count : Nat
  kind : RegionKind
deriving DecidableEq, Repr

/-- 2.3: a calibration set. -/
structure Calibration where
  gl : Nat
  gn : Nat
  offV : Int
  offIL : Int
  offIN : Int
  offHall : Int
  offTemp : Int
  offLoadv : Int
  pCreep : Nat
  pPen : Nat
  ratio : Nat
  hLo : Int
  hHi : Int
  tTrip : Int
  tClear : Int
  vOn : Nat
  creepCurrent : Nat
  wLow : Nat
  /-- Steps of 0.5 ms. -/
  zcDelay : Nat
  pulseMs : Nat
  /-- Kind k in bit k. -/
  tripMask : BitVec 10
deriving DecidableEq, Repr

/-- 2.3: the default set. -/
def Calibration.default : Calibration where
  gl := 1800000
  gn := 1800000
  offV := 0
  offIL := 0
  offIN := 0
  offHall := 0
  offTemp := 0
  offLoadv := 0
  pCreep := 5
  pPen := 0
  ratio := 32
  hLo := -24000
  hHi := 24000
  tTrip := 20000
  tClear := 16000
  vOn := 2000
  creepCurrent := 40
  wLow := 5000
  zcDelay := 0
  pulseMs := 100
  tripMask := 0x3FF

/-- R21: the Window Map's state, and the snapshots of a read transaction (R33, R35). -/
structure WindowMap where
  configured : Bool
  table : List Region
  selectMask : BitVec 3
  /-- 400 kHz rather than 100 kHz. -/
  fast : Bool
  cal : Calibration
  calFromPage1 : Bool
  page0Valid : Bool
  page1Valid : Bool
  liveSnap : Option (List Byte)
  outcomeSnap : Option (List Byte)
deriving DecidableEq, Repr

/-- R21: the Window Map at the start of a cold start. -/
def WindowMap.cold : WindowMap where
  configured := false
  table := []
  selectMask := 0
  fast := false
  cal := .default
  calFromPage1 := false
  page0Valid := false
  page1Valid := false
  liveSnap := none
  outcomeSnap := none

/-! ## Sampling Unit (chapter 3) -/

/-- R39: the loop's states. -/
inductive Loop where
  | stopped
  | locking
  | locked
deriving DecidableEq, Repr

/-- R41: the converter calibration states. -/
inductive Conv where
  | uncalibrated
  | calibrating
  | calibrated
deriving DecidableEq, Repr

/-- R46: the capture states. -/
inductive Capture where
  | idle
  | waiting
  | running
deriving DecidableEq, Repr

/-- R52: the zero-crossing filter's states. -/
inductive ZcFilter where
  | unsettled
  | low
  | high
deriving DecidableEq, Repr

/-- R48: a monitor's state and its two run counts. -/
structure MonitorState where
  active : Bool
  activeRun : Nat
  absentRun : Nat
deriving DecidableEq, Repr

/-- R37, R48: a monitor at a cold start. -/
def MonitorState.cold : MonitorState where
  active := false
  activeRun := 0
  absentRun := 0

/-- R37: the Sampling Unit's state. The auxiliary channels of the rotation are named as the monitors that take them. -/
structure Sampling where
  loop : Loop
  conv : Conv
  calOrdered : Bool
  calTime : Nat
  correction : BitVec 16
  framePos : Nat
  /-- MODEL (log entry 8): frame 63 is complete, and its BLOCK_END has not been taken. -/
  blockDue : Bool
  rot : Monitor
  capture : Capture
  capCount : Nat
  capMax : Nat
  capSum : Nat
  hall : MonitorState
  temp : MonitorState
  loadv : MonitorState
  blockMax : Nat
  blockHas : Bool
  ilSum : Nat
  zc : ZcFilter
  zcCount : Nat
  zcLast : Bool
deriving DecidableEq, Repr

/-- R37, R39: the Sampling Unit at the start of a cold start. -/
def Sampling.cold : Sampling where
  loop := .stopped
  conv := .uncalibrated
  calOrdered := false
  calTime := 0
  correction := 0
  framePos := 0
  blockDue := false
  rot := .hall
  capture := .idle
  capCount := 0
  capMax := 0
  capSum := 0
  hall := .cold
  temp := .cold
  loadv := .cold
  blockMax := 0
  blockHas := false
  ilSum := 0
  zc := .unsettled
  zcCount := 0
  zcLast := false

/-! ## Energy Engine (chapter 4) -/

/-- R71: the emergency-credit states. -/
inductive Emergency where
  | available
  | inUse
  | spent
deriving DecidableEq, Repr

/-- R55: the Energy Engine's state. -/
structure Engine where
  /-- ACCOUNT rather than NO_ACCOUNT. -/
  account : Bool
  sl : Int
  sn : Int
  credit : Int
  shortfall : Nat
  fine : Nat
  cumulative : Nat
  charge : Nat
  rate : Nat
  pendingRate : Option Nat
  limit : Nat
  pendingLimit : Option Nat
  allow : Nat
  pendingAllow : Option Nat
  ec : Emergency
  spend : Nat
  /-- MODEL (log entry 8): spend-since-commit has reached 1,000 and SPEND_THRESHOLD has not been taken. -/
  spendDue : Bool
  power : Nat
  winCount : Nat
  winSum : Nat
  lowFlag : Bool
  repCredit : Bool
  repLow : Bool
  repUnset : Bool
deriving DecidableEq, Repr

/-- R55, R56, R81: the Energy Engine at the start of a cold start, and throughout NO_ACCOUNT for the account's items. -/
def Engine.cold : Engine where
  account := false
  sl := 0
  sn := 0
  credit := 0
  shortfall := 0
  fine := 0
  cumulative := 0
  charge := 0
  rate := 0
  pendingRate := none
  limit := 0
  pendingLimit := none
  allow := 0
  pendingAllow := none
  ec := .available
  spend := 0
  spendDue := false
  power := 0
  winCount := 0
  winSum := 0
  lowFlag := false
  repCredit := false
  repLow := false
  repUnset := true

/-! ## Tamper kinds, open reasons, the account record -/

/-- 8.1: the ten kinds, in order of k. -/
inductive TamperKind where
  | caseOpen
  | cover
  | magnet
  | imbalance
  | reverse
  | bypass
  | relay
  | port
  | memory
  | path
deriving DecidableEq, Repr

/-- R149: the states of a latch. -/
inductive Latch where
  | clear
  | active
  | held
deriving DecidableEq, Repr

/-- The ten latches. -/
structure Latches where
  caseOpen : Latch
  cover : Latch
  magnet : Latch
  imbalance : Latch
  reverse : Latch
  bypass : Latch
  relay : Latch
  port : Latch
  memory : Latch
  path : Latch
deriving DecidableEq, Repr

/-- All ten CLEAR (R148). -/
def Latches.cold : Latches where
  caseOpen := .clear
  cover := .clear
  magnet := .clear
  imbalance := .clear
  reverse := .clear
  bypass := .clear
  relay := .clear
  port := .clear
  memory := .clear
  path := .clear

/-- R125: the reasons, in the order of R129. -/
inductive Reason where
  | credit
  | limit
  | tamper
  | thermal
  | store
  | unset
deriving DecidableEq, Repr

/-- The open-reason set: six members, without duplicates by its shape. -/
structure Reasons where
  credit : Bool
  limit : Bool
  tamper : Bool
  thermal : Bool
  store : Bool
  unset : Bool
deriving DecidableEq, Repr

/-- R144: {UNSET}. -/
def Reasons.cold : Reasons where
  credit := false
  limit := false
  tamper := false
  thermal := false
  store := false
  unset := true

/-- R83: the account record. The desired relay state is CLOSED when `relayClosed`. -/
structure Record where
  generation : Nat
  credit : Int
  shortfall : Nat
  fine : Nat
  cumulative : Nat
  rate : Nat
  relayClosed : Bool
  armed : Bool
  retry : Nat
  pendingRate : Option Nat
  ec : Emergency
  pendingAllow : Option Nat
  limit : Nat
  allow : Nat
  high : Nat
  reasons : Reasons
  head : Nat
  used : BitVec 64
  latches : Latches
  charge : Nat
  appendNo : BitVec 32
deriving DecidableEq, Repr

/-! ## Account Store (chapter 5) -/

/-- R82: the account states. -/
inductive AccountState where
  | noAccount
  | loaded
  | void
  | storeFault
deriving DecidableEq, Repr

/-- R83: the two slots. -/
inductive Slot where
  | a
  | b
deriving DecidableEq, Repr

/-- R86: the triggers, in order of rank. -/
inductive Trigger where
  | powerFail
  | holdExit
  | void
  | token
  | latch
  | switch
  | ec
  | boundary
  | spend
deriving DecidableEq, Repr

/-- R82: the commit stages. -/
inductive CommitStage where
  | idle
  | queued
  | inFlight
deriving DecidableEq, Repr

/-- R111: the kinds of code that carry a change. -/
inductive CodeKind where
  | credit
  | rate
  | limit
  | clear
  | allowance
deriving DecidableEq, Repr

/-- R89, R116: a change: its kind, its value and its sequence number. -/
structure Change where
  kind : CodeKind
  value : Nat
  seq : Nat
deriving DecidableEq, Repr

/-- R82: the Account Store's state. -/
structure Store where
  state : AccountState
  verified : Option (List Byte)
  slot : Option Slot
  high : Nat
  /-- Entry i is set when sequence number H - i is in the used-set. -/
  used : BitVec 64
  stage : CommitStage
  attempt : Nat
  snapshot : Option Record
  inTrigger : Option Trigger
  waiting : Option Trigger
  held : Option Change
  carried : Option Change
  /-- MODEL (log entry 24): the bytes of slot A while slot B is read, none of a read that failed (R96). -/
  slotA : Option (List Byte)
  /-- MODEL (log entry 9): requests of this command that the end of the generations has ended (R85). -/
  ended : List Trigger
  /-- MODEL (log entry 34): the next snapshot is followed by a further commit (R162). -/
  further : Bool
deriving DecidableEq, Repr

/-- R82: the Account Store at the start of a cold start. -/
def Store.cold : Store where
  state := .noAccount
  verified := none
  slot := none
  high := 0
  used := 0
  stage := .idle
  attempt := 1
  snapshot := none
  inTrigger := none
  waiting := none
  held := none
  carried := none
  slotA := none
  ended := []
  further := false

/-! ## Code Decoder (chapter 6) -/

/-- R105: the outcomes. -/
inductive OutcomeCode where
  | pending
  | accepted
  | partialDone
  | malformed
  | check
  | kind
  | old
  | used
  | value
  | overflow
  | store
  | dropped
deriving DecidableEq, Repr

/-- R104: an outcome record. `entry` is the MODEL's own number of the record (log entry 10). -/
structure OutcomeRec where
  entry : Nat
  tag : Byte
  outcome : OutcomeCode
  /-- The kind digit and the sequence number, when present. -/
  kindSeq : Option (Nat × Nat)
  /-- The tamper kinds left ACTIVE, when present. -/
  detail : Option (BitVec 10)
deriving DecidableEq, Repr

/-- R100: the states of a capture place that is not FREE; an ACTIVE one keeps the decoded change. -/
inductive PlaceState where
  | filling
  | ready
  | active (c : Change)
deriving DecidableEq, Repr

/-- R100: the submission in a capture place. -/
structure Submission where
  state : PlaceState
  tag : Byte
  bytes : List Byte
  overLength : Bool
  busError : Bool
  /-- The `entry` of its outcome record. -/
  entry : Nat
deriving DecidableEq, Repr

/-- R108: a key: the position map, the mask digits and the check constants. -/
structure Key where
  map : List Nat
  mask : List Nat
  a : Nat
  b : Nat
deriving DecidableEq, Repr

/-- R100: the Code Decoder's state. The submissions stand oldest first; a place not listed is FREE. -/
structure Decoder where
  places : List Submission
  refused : Bool
  outcomes : List OutcomeRec
  nextEntry : Nat
  key : Option Key
deriving DecidableEq, Repr

/-- R100, R123: the Code Decoder at the start of a cold start, with the key store kept. -/
def Decoder.cold (key : Option Key) : Decoder where
  places := []
  refused := false
  outcomes := []
  nextEntry := 0
  key := key

/-! ## Switch Controller (chapter 7) -/

/-- R124: the relay states. -/
inductive Relay where
  | closed
  | opened
  | closing
  | opening
deriving DecidableEq, Repr

/-- 7.4: the step of an attempt, with its time in crystal periods (R38). -/
inductive OpStep where
  /-- The wait for a crossing, with the time passed (R133). -/
  | crossingWait (passed : Nat)
  /-- The zero-cross delay, with the time left (R133). -/
  | delay (left : Nat)
  /-- The coil is driven, with the time left (R134). -/
  | pulse (left : Nat)
  /-- The settle time, with the time left (R135). -/
  | settle (left : Nat)
  /-- Waiting for the capture result (R135). -/
  | capture
  /-- The capture request was refused and is to be made again (R135). -/
  | retry
deriving DecidableEq, Repr

/-- R132: a relay operation; its direction is that of the relay state. The reason is that of an opening. -/
structure Operation where
  attempt : Nat
  step : OpStep
  unsync : Bool
  reason : Option Reason
deriving DecidableEq, Repr

/-- R145: the relay check. -/
inductive RelayCheck where
  | noCheck
  | waiting
  | retry
deriving DecidableEq, Repr

/-- R130: the button filter's states. -/
inductive ButtonFilter where
  | unsettled
  | released
  | pressed
deriving DecidableEq, Repr

/-- R125, R126, R144: a report from a source of a reason. -/
inductive Report where
  | credit (present : Bool)
  | rateUnset (present : Bool)
  | unconfigured (present : Bool)
  | account (a : AccountState)
  | trip (present : Bool)
  | temp (active : Bool)
deriving DecidableEq, Repr

/-- R124: the Switch Controller's state. -/
structure Switch where
  relay : Relay
  reasons : Reasons
  armed : Bool
  /-- The holdback is HELD. -/
  held : Bool
  op : Option Operation
  overRun : Nat
  retry : Nat
  limitDelay : Nat
  clean : Nat
  ilRun : Nat
  relayFound : Bool
  bypass : Bool
  openPeriod : Bool
  check : RelayCheck
  creditCond : Bool
  rateUnset : Bool
  unconfigured : Bool
  account : AccountState
  trip : Bool
  tempHot : Bool
  button : ButtonFilter
  buttonTime : Nat
  /-- The level of the crystal period before (R130). -/
  buttonLast : Bool
  buttonOn : Bool
  lowcr : Bool
  awaitRecord : Bool
  heldReports : List Report
deriving DecidableEq, Repr

/-- R124, R144: the Switch Controller at the start of a cold start. -/
def Switch.cold : Switch where
  relay := .opened
  reasons := .cold
  armed := false
  held := true
  op := none
  overRun := 0
  retry := 0
  limitDelay := 0
  clean := 0
  ilRun := 0
  relayFound := false
  bypass := false
  openPeriod := false
  check := .noCheck
  creditCond := false
  rateUnset := true
  unconfigured := true
  account := .noAccount
  trip := false
  tempHot := false
  button := .unsettled
  buttonTime := 0
  buttonLast := false
  buttonOn := false
  lowcr := false
  awaitRecord := true
  heldReports := []

/-! ## Tamper Monitor (chapter 8) -/

/-- R151: the states of a switch input's filter. -/
inductive InputFilter where
  | unsettled
  | intact
  | opened
deriving DecidableEq, Repr

/-- R151: a switch input's filter, with its count and the level of the crystal period before (open or not). -/
structure InputFilterState where
  state : InputFilter
  time : Nat
  last : Bool
deriving DecidableEq, Repr

/-- R151: a filter at power-up. -/
def InputFilterState.cold : InputFilterState where
  state := .unsettled
  time := 0
  last := false

/-- R148: the waiting findings, a set of the one-shot kinds. -/
structure Findings where
  relay : Bool
  port : Bool
  memory : Bool
  path : Bool
deriving DecidableEq, Repr

/-- No waiting finding. -/
def Findings.cold : Findings where
  relay := false
  port := false
  memory := false
  path := false

/-- R148: the Tamper Monitor's state. -/
structure Tamper where
  latches : Latches
  loaded : Bool
  waiting : Findings
  caseCond : Bool
  coverCond : Bool
  magnet : Bool
  imbalance : Bool
  reverse : Bool
  bypass : Bool
  imbPresent : Nat
  imbAbsent : Nat
  revPresent : Nat
  revAbsent : Nat
  caseFilter : InputFilterState
  coverFilter : InputFilterState
  tripReported : Bool
deriving DecidableEq, Repr

/-- R148: the Tamper Monitor at the start of a cold start, with the filters as they stand; a condition whose filter is settled
OPENED is present (R148: CASE and COVER from their filters). -/
def Tamper.cold (caseFilter coverFilter : InputFilterState) : Tamper where
  latches := .cold
  loaded := false
  waiting := .cold
  caseCond := caseFilter.state = .opened
  coverCond := coverFilter.state = .opened
  magnet := false
  imbalance := false
  reverse := false
  bypass := false
  imbPresent := 0
  imbAbsent := 0
  revPresent := 0
  revAbsent := 0
  caseFilter := caseFilter
  coverFilter := coverFilter
  tripReported := false

/-! ## Log Writer (chapter 9) -/

/-- R165: the fourteen kinds of event. -/
inductive EventKind where
  | tamperSet
  | tamperCleared
  | tokenAccepted
  | supplyOpened
  | supplyClosed
  | ecTaken
  | ecSpent
  | rateActive
  | commitFault
  | meteringGap
  | powerDown
  | powerUp
  | accountVoid
  | eventsLost
deriving DecidableEq, Repr

/-- R165: an event record. -/
structure EventRec where
  number : BitVec 32
  kind : EventKind
  detail : Byte
  cumulative : Nat
  credit : Int
deriving DecidableEq, Repr

/-- R169: the append stages. -/
inductive AppendStage where
  | idle
  | queued
  | running
  | backoff
deriving DecidableEq, Repr

/-- R164: the ring: the LOG window's first page and its page count p. -/
structure Ring where
  first : Nat
  pages : Nat
deriving DecidableEq, Repr

/-- R164: the Log Writer's state. While `recovering` the queued records have no number yet (R172). -/
structure EventLog where
  ring : Option Ring
  head : Nat
  appendNo : BitVec 32
  nextNo : BitVec 32
  queue : List EventRec
  lost : Nat
  stage : AppendStage
  recovering : Bool
deriving DecidableEq, Repr

/-- R164, R172: the Log Writer at the start of a cold start. -/
def EventLog.cold : EventLog where
  ring := none
  head := 0
  appendNo := 0
  nextNo := 0
  queue := []
  lost := 0
  stage := .idle
  recovering := true

/-! ## Supply Monitor (chapter 10) -/

/-- R173: the phases. -/
inductive Phase where
  | starting
  | running
  | warned
  | held
  | resuming
deriving DecidableEq, Repr

/-- R173: the step of the cold-start sequence (R179) or of hold exit (R178) in progress. -/
inductive SeqStep where
  | noStep
  /-- R179 step 2: waiting for the warning to clear and for lock. -/
  | coldClocks
  /-- R179 steps 3 to 5: the START-UP READS job. -/
  | coldReads
  /-- R179 step 6: calibration and restore. -/
  | coldCalRestore
  /-- R179 step 8: the relay check. -/
  | coldRelayCheck
  /-- R178 step 2: waiting for lock. -/
  | exitLock
  /-- R178 step 2: calibration. -/
  | exitCal
  /-- R178 step 3: the hold-exit check. -/
  | exitCheck
  /-- R178 step 5: the drain. -/
  | exitDrain
deriving DecidableEq, Repr

/-- R173: the Supply Monitor's state. -/
structure Supply where
  /-- The part has supply; without it the part is COLD. -/
  powered : Bool
  phase : Phase
  /-- The power-fail warning is RAISED. -/
  raised : Bool
  belowTime : Nat
  aboveTime : Nat
  timer : Nat
  step : SeqStep
  restoreDone : Bool
  holdDue : Bool
  /-- MODEL (log entry 36): a RESTART has been accepted, and the host byte in progress upstream has not ended (R180). -/
  restartDue : Bool
  subSec : Nat
deriving DecidableEq, Repr

/-- R173: the Supply Monitor at a power-up or RESTART, with the crystal's count (R38). -/
def Supply.cold (subSec : Nat) : Supply where
  powered := true
  phase := .starting
  raised := true
  belowTime := 0
  aboveTime := 0
  timer := 0
  step := .coldClocks
  restoreDone := false
  holdDue := false
  restartDue := false
  subSec := subSec

/-! ## Commissioning Port (chapter 11) -/

/-- R183: the results. -/
inductive Result where
  | noResult
  | ok
  | pending
  | busy
  | notReady
  | badArgument
  | writeFailed
  | pageInvalid
  | sealed
  | unknown
deriving DecidableEq, Repr

/-- R181, R182, R185: the Commissioning Port's state. -/
structure Port where
  sealed : Bool
  /-- PSEL is low: a frame is in progress. -/
  frame : Bool
  /-- The bits of the byte in progress, the first received first. -/
  bits : List Bool
  bytes : List Byte
  taken : Bool
  /-- The bits still to shift out, before the zeros. -/
  out : List Bool
  last : Result
  pagePending : Bool
  pageNo : Nat
  pageData : List Byte
  pageResult : Result
deriving DecidableEq, Repr

/-- R181: the port at a power-up, with the seal state of the one-time store. -/
def Port.cold (isSealed : Bool) : Port where
  sealed := isSealed
  frame := false
  bits := []
  bytes := []
  taken := false
  out := []
  last := .noResult
  pagePending := false
  pageNo := 0
  pageData := []
  pageResult := .writeFailed

/-! ## Lines -/

/-- R4, R10: a byte of the host that the part is clocking on the memory segment, the upstream clock stretched: the address byte after
a START or repeated START, or a later byte. -/
inductive CarriedByte where
  | address (select : BitVec 7) (dir : Dir)
  | later
deriving DecidableEq, Repr

/-- The input lines (12.8). -/
structure Pins where
  strap : BitVec 3
  railAbove : Bool
  vHigh : Bool
  button : Bool
  caseOpen : Bool
  coverOpen : Bool
  msclHigh : Bool
  /-- The upstream segment stands in the middle of a byte (R15, R20). -/
  midByte : Bool
  /-- MODEL (log entry 38): the byte in progress that the part is just clocking on the memory segment, if any. -/
  carried : Option CarriedByte
deriving DecidableEq, Repr

/-- The output lines: what the last command made the part do on them. -/
structure Lines where
  /-- The acknowledge the host saw for its byte. -/
  hostAck : Option Bool
  /-- The byte the host was given. -/
  hostByte : Option Byte
  /-- What went onto the memory segment, in order. -/
  seg : List SegAct
  /-- PDO; none is released. -/
  pdo : Option Bool
deriving DecidableEq, Repr

/-- All lines released. -/
def Lines.released : Lines where
  hostAck := none
  hostByte := none
  seg := []
  pdo := none

/-! ## The whole state -/

/-- The state of the part, and the queue of commands, first in, first out. -/
structure State where
  pins : Pins
  lines : Lines
  path : Path
  win : WindowMap
  smp : Sampling
  eng : Engine
  sto : Store
  dec : Decoder
  sw : Switch
  tam : Tamper
  log : EventLog
  sup : Supply
  port : Port
  /-- MODEL (log entry 11): the counter that the free values read and advance. -/
  free : Nat
  pending : List Instr
deriving DecidableEq, Repr

/-- The input lines assumed at reset (DESIGN CHOICE, log entry 6). -/
def Pins.reset : Pins where
  strap := 0
  railAbove := true
  vHigh := false
  button := false
  caseOpen := false
  coverOpen := false
  msclHigh := true
  midByte := false
  carried := none

/-- The part right after its supply has first risen: every block at its cold-start value (R179), the seal state UNSEALED
(R181), no key, no result, the queue empty. -/
def State.reset : State where
  pins := .reset
  lines := .released
  path := .cold 0
  win := .cold
  smp := .cold
  eng := .cold
  sto := .cold
  dec := .cold none
  sw := .cold
  tam := .cold .cold .cold
  log := .cold
  sup := .cold 0
  port := .cold false
  free := 0
  pending := []

end Sys2Proof.Machine
end

