-- ==== Sys2Proof/Machine/Formats.lean ====
section
/-! DEFINITION. The byte formats of chapter 12: byte order, codes, the CRC (R189), the layout and calibration pages with their
checks (R22, R23, R25), the account record with its check (R83, R84), the log record (12.4), and the port's bytes (12.7). -/

namespace Sys2Proof.Machine

open Sys2Proof

/-! ## Byte order and bit fields (R188) -/

/-- `v` as `n` bytes, most significant first (R188). -/
def be : Nat → Nat → List Byte
  | 0, _ => []
  | n + 1, v => be n (v / 256) ++ [BitVec.ofNat 8 v]

/-- The number that bytes spell, most significant first (R188). -/
def unbe (bs : List Byte) : Nat := bs.foldl (fun acc b => acc * 256 + b.toNat) 0

/-- The `n` bytes at offset `off`, as a number. -/
def field (bs : List Byte) (off n : Nat) : Nat := unbe ((bs.drop off).take n)

/-- A signed value as a two's complement field of `bits` bits (R188). -/
def toField (bits : Nat) (v : Int) : Nat := (v % (2 ^ bits : Int)).toNat

/-- The signed value of a two's complement field of `bits` bits (R188). -/
def ofField (bits : Nat) (v : Nat) : Int := if v < 2 ^ (bits - 1) then v else (v : Int) - 2 ^ bits

/-- `n` bits of `v` from bit `lo` up. -/
def bitsOf (v lo n : Nat) : Nat := v / 2 ^ lo % 2 ^ n

/-- 1 for true, 0 for false. -/
def bit (b : Bool) : Nat := if b then 1 else 0

/-! ## CRC (R189) -/

/-- One shift of the register: combined with 0x1021 when a 1 left the top. -/
def crcShift (r : BitVec 16) : BitVec 16 := if r.msb then (r <<< 1) ^^^ 0x1021#16 else r <<< 1

/-- One byte placed into the top of the register and shifted eight times. -/
def crcByte (r : BitVec 16) (b : Byte) : BitVec 16 :=
  let r := r ^^^ (b.setWidth 16 <<< 8)
  crcShift (crcShift (crcShift (crcShift (crcShift (crcShift (crcShift (crcShift r)))))))

/-- R189: the CRC of the bytes, from 0xFFFF. -/
def crc16 (bs : List Byte) : BitVec 16 := bs.foldl crcByte 0xFFFF#16

/-! ## Codes (R188) -/

/-- 8.1: the number k of a tamper kind. -/
def TamperKind.num : TamperKind → Nat
  | .caseOpen => 0
  | .cover => 1
  | .magnet => 2
  | .imbalance => 3
  | .reverse => 4
  | .bypass => 5
  | .relay => 6
  | .port => 7
  | .memory => 8
  | .path => 9

/-- The ten kinds in order of k. -/
def tamperKinds : List TamperKind :=
  [.caseOpen, .cover, .magnet, .imbalance, .reverse, .bypass, .relay, .port, .memory, .path]

/-- Latch state codes: CLEAR 0, ACTIVE 1, HELD 2. -/
def Latch.code : Latch → Nat
  | .clear => 0
  | .active => 1
  | .held => 2

/-- The latch a code names, none for an undefined code. -/
def Latch.ofCode : Nat → Option Latch
  | 0 => some .clear
  | 1 => some .active
  | 2 => some .held
  | _ => none

/-- The latch of a kind. -/
def Latches.get (l : Latches) : TamperKind → Latch
  | .caseOpen => l.caseOpen
  | .cover => l.cover
  | .magnet => l.magnet
  | .imbalance => l.imbalance
  | .reverse => l.reverse
  | .bypass => l.bypass
  | .relay => l.relay
  | .port => l.port
  | .memory => l.memory
  | .path => l.path

/-- The latches with one of them changed. -/
def Latches.set (l : Latches) (k : TamperKind) (v : Latch) : Latches :=
  match k with
  | .caseOpen => { l with caseOpen := v }
  | .cover => { l with cover := v }
  | .magnet => { l with magnet := v }
  | .imbalance => { l with imbalance := v }
  | .reverse => { l with reverse := v }
  | .bypass => { l with bypass := v }
  | .relay => { l with relay := v }
  | .port => { l with port := v }
  | .memory => { l with memory := v }
  | .path => { l with path := v }

/-- The latch set: latch k in bits 2k+1 and 2k. -/
def Latches.code (l : Latches) : Nat :=
  (tamperKinds.map fun k => (l.get k).code * 4 ^ k.num).sum

/-- The latches a latch set codes, none when a state is undefined (R84 check 4). -/
def Latches.ofCode (v : Nat) : Option Latches := do
  let at' := fun k => Latch.ofCode (bitsOf v (2 * k) 2)
  pure {
    caseOpen := ← at' 0
    cover := ← at' 1
    magnet := ← at' 2
    imbalance := ← at' 3
    reverse := ← at' 4
    bypass := ← at' 5
    relay := ← at' 6
    port := ← at' 7
    memory := ← at' 8
    path := ← at' 9 }

/-- The reason numbers. -/
def Reason.num : Reason → Nat
  | .credit => 0
  | .limit => 1
  | .tamper => 2
  | .thermal => 3
  | .store => 4
  | .unset => 5

/-- Membership in the open-reason set. -/
def Reasons.has (s : Reasons) : Reason → Bool
  | .credit => s.credit
  | .limit => s.limit
  | .tamper => s.tamper
  | .thermal => s.thermal
  | .store => s.store
  | .unset => s.unset

/-- The set with one membership changed. -/
def Reasons.put (s : Reasons) (r : Reason) (v : Bool) : Reasons :=
  match r with
  | .credit => { s with credit := v }
  | .limit => { s with limit := v }
  | .tamper => { s with tamper := v }
  | .thermal => { s with thermal := v }
  | .store => { s with store := v }
  | .unset => { s with unset := v }

/-- The reasons in the order of R129. -/
def reasonOrder : List Reason := [.credit, .limit, .tamper, .thermal, .store, .unset]

/-- R129: the first reason present. -/
def Reasons.first (s : Reasons) : Option Reason := reasonOrder.find? s.has

/-- No reason is present. -/
def Reasons.isEmpty (s : Reasons) : Bool := !reasonOrder.any s.has

/-- The open-reason set byte. -/
def Reasons.code (s : Reasons) : Nat := (reasonOrder.map fun r => bit (s.has r) * 2 ^ r.num).sum

/-- The set that six bits code. -/
def Reasons.ofCode (v : Nat) : Reasons where
  credit := bitsOf v 0 1 = 1
  limit := bitsOf v 1 1 = 1
  tamper := bitsOf v 2 1 = 1
  thermal := bitsOf v 3 1 = 1
  store := bitsOf v 4 1 = 1
  unset := bitsOf v 5 1 = 1

/-- Emergency-credit state codes. -/
def Emergency.code : Emergency → Nat
  | .available => 0
  | .inUse => 1
  | .spent => 2

/-- The emergency-credit state a code names. -/
def Emergency.ofCode : Nat → Option Emergency
  | 0 => some .available
  | 1 => some .inUse
  | 2 => some .spent
  | _ => none

/-- Relay state codes: OPEN 0, CLOSED 1, OPENING 2, CLOSING 3. -/
def Relay.code : Relay → Nat
  | .opened => 0
  | .closed => 1
  | .opening => 2
  | .closing => 3

/-- Account state codes. -/
def AccountState.code : AccountState → Nat
  | .noAccount => 0
  | .loaded => 1
  | .void => 2
  | .storeFault => 3

/-- R86: a trigger's rank, which is its code. -/
def Trigger.rank : Trigger → Nat
  | .powerFail => 1
  | .holdExit => 2
  | .void => 3
  | .token => 4
  | .latch => 5
  | .switch => 6
  | .ec => 7
  | .boundary => 8
  | .spend => 9

/-- 12.5: outcome codes in the order of R105. -/
def OutcomeCode.code : OutcomeCode → Nat
  | .pending => 0x01
  | .malformed => 0x02
  | .check => 0x03
  | .kind => 0x04
  | .old => 0x05
  | .used => 0x06
  | .value => 0x07
  | .overflow => 0x08
  | .accepted => 0x09
  | .partialDone => 0x0A
  | .store => 0x0B
  | .dropped => 0x0C

/-- 12.4: event kind codes in the order of R165. -/
def EventKind.code : EventKind → Nat
  | .tamperSet => 0x01
  | .tamperCleared => 0x02
  | .tokenAccepted => 0x03
  | .supplyOpened => 0x04
  | .supplyClosed => 0x05
  | .ecTaken => 0x06
  | .ecSpent => 0x07
  | .rateActive => 0x08
  | .commitFault => 0x09
  | .meteringGap => 0x0A
  | .powerDown => 0x0B
  | .powerUp => 0x0C
  | .accountVoid => 0x0D
  | .eventsLost => 0x0E

/-- R111: the digit of a code kind. -/
def CodeKind.digit : CodeKind → Nat
  | .credit => 1
  | .rate => 2
  | .limit => 3
  | .clear => 4
  | .allowance => 5

/-- 12.7: the result codes. -/
def Result.code : Result → Nat
  | .noResult => 0x00
  | .ok => 0x01
  | .pending => 0x02
  | .busy => 0x03
  | .notReady => 0x04
  | .badArgument => 0x05
  | .writeFailed => 0x06
  | .pageInvalid => 0x07
  | .sealed => 0x08
  | .unknown => 0x09

/-! ## Page 0, the layout page (R22, R23, 12.2) -/

/-- The region kind a code names. -/
def RegionKind.ofCode : Nat → Option RegionKind
  | 1 => some .sealedRegion
  | 2 => some .account
  | 3 => some .log
  | 4 => some .live
  | 5 => some .inbox
  | _ => none

/-- What page 0 carries. -/
structure Layout where
  selectMask : BitVec 3
  fast : Bool
  table : List Region
deriving DecidableEq, Repr

/-- Region record `j` (0 for the first), none when its kind code is undefined (R22 check 5). -/
def readRegion (bs : List Byte) (j : Nat) : Option Region := do
  let kind ← RegionKind.ofCode (field bs (5 + 5 * j + 4) 1)
  pure { first := field bs (5 + 5 * j) 2, count := field bs (5 + 5 * j + 2) 2, kind := kind }

/-- The CRC field over offsets 0 to `n - 1` holds at offset `n` (R189). -/
def crcHolds (bs : List Byte) (n : Nat) : Bool := field bs n 2 = (crc16 (bs.take n)).toNat

/-- R22: a well-formed page 0. -/
def readLayout (bs : List Byte) : Option Layout :=
  let speed := field bs 3 1
  let count := field bs 4 1
  if field bs 0 2 = 0xD740 && crcHolds bs 45 && (speed = 1 || speed = 4) && count ≤ 8 then do
    let table ← (List.range count).mapM (readRegion bs)
    pure { selectMask := BitVec.ofNat 3 (field bs 2 1), fast := speed = 4, table := table }
  else none

/-- The page lies in the region. -/
def Region.holds (r : Region) (page : Nat) : Bool := r.first ≤ page && page < r.first + r.count

/-- Two regions share no page. -/
def Region.apart (r q : Region) : Bool := r.first + r.count ≤ q.first || q.first + q.count ≤ r.first

/-- No two regions of the list share a page. -/
def regionsApart : List Region → Bool
  | [] => true
  | r :: rs => rs.all r.apart && regionsApart rs

/-- How many regions of a kind the table holds. -/
def kindCount (t : List Region) (k : RegionKind) : Nat := (t.filter fun r => r.kind = k).length

/-- R23: the sizes of a region by its kind. -/
def Region.sizeOk (r : Region) : Bool :=
  match r.kind with
  | .account => r.count = 2
  | .log => 2 ≤ r.count && r.count ≤ 64
  | .live => r.count = 1
  | .inbox => r.count = 1
  | .sealedRegion => 1 ≤ r.count

/-- R23: the table is valid: placement, overlap, one of each, sizes, SEALED. -/
def tableValid (t : List Region) : Bool :=
  t.all (fun r => 2 ≤ r.first && r.first ≤ 511 && 1 ≤ r.count && r.first + r.count - 1 ≤ 511 && r.sizeOk) &&
  regionsApart t &&
  kindCount t .account = 1 && kindCount t .log = 1 && kindCount t .live = 1 && kindCount t .inbox = 1 &&
  kindCount t .sealedRegion ≤ 4

/-- R22 and R23 together: the layout of a valid page 0. -/
def validLayout (bs : List Byte) : Option Layout := do
  let l ← readLayout bs
  if tableValid l.table then pure l else none

/-! ## Page 1, the calibration page (R25, 12.2) -/

/-- The fields of page 1, unchecked. -/
def readCalibration (bs : List Byte) : Calibration where
  gl := field bs 2 3
  gn := field bs 5 3
  offV := ofField 16 (field bs 8 2)
  offIL := ofField 16 (field bs 10 2)
  offIN := ofField 16 (field bs 12 2)
  offHall := ofField 16 (field bs 14 2)
  offTemp := ofField 16 (field bs 16 2)
  offLoadv := ofField 16 (field bs 18 2)
  pCreep := field bs 20 2
  pPen := field bs 22 2
  ratio := field bs 24 1
  hLo := ofField 16 (field bs 25 2)
  hHi := ofField 16 (field bs 27 2)
  tTrip := ofField 16 (field bs 29 2)
  tClear := ofField 16 (field bs 31 2)
  vOn := field bs 33 2
  creepCurrent := field bs 35 2
  wLow := field bs 37 4
  zcDelay := field bs 41 1
  pulseMs := field bs 42 1
  tripMask := BitVec.ofNat 10 (field bs 43 2)

/-- R25, 2.3: every field lies within its range. -/
def Calibration.inRange (c : Calibration) : Bool :=
  1 ≤ c.gl && c.gl ≤ 16777215 && 1 ≤ c.gn && c.gn ≤ 16777215 &&
  c.pCreep ≤ 1000 && c.pPen ≤ 65000 && 1 ≤ c.ratio && c.ratio ≤ 255 &&
  c.hLo < c.hHi && c.tClear < c.tTrip &&
  1 ≤ c.vOn && c.vOn ≤ 32767 && 1 ≤ c.creepCurrent && c.creepCurrent ≤ 32767 &&
  c.wLow ≤ 100000000 && c.zcDelay ≤ 39 && 20 ≤ c.pulseMs && c.pulseMs ≤ 200

/-- R25: the calibration of a valid page 1. -/
def validCalibration (bs : List Byte) : Option Calibration :=
  if field bs 0 2 = 0xD7C1 && crcHolds bs 45 && (readCalibration bs).inRange then some (readCalibration bs) else none

/-! ## The account record (R83, R84, 12.3) -/

/-- The 62 bytes of the record before its CRC (12.3). The value of a pending allowance that is absent is written as 0 (DESIGN CHOICE: log
entry 41). -/
def Record.body (r : Record) : List Byte :=
  let rateWord := r.rate % 2 ^ 27 + bit r.relayClosed * 2 ^ 27 + bit r.armed * 2 ^ 28 + r.retry % 8 * 2 ^ 29
  let pendingWord := r.pendingRate.getD 0 % 2 ^ 27 + r.ec.code * 2 ^ 27 + bit r.pendingAllow.isSome * 2 ^ 29
  let historyWord := r.high % 2 ^ 17 + r.reasons.code * 2 ^ 17 + r.head % 2 ^ 9 * 2 ^ 23
  let latchWord := r.latches.code + r.charge % 2 ^ 20 * 2 ^ 20
  be 1 0xA7 ++ be 4 r.generation ++ be 4 (toField 32 r.credit) ++ be 4 r.shortfall ++ be 6 r.fine ++
  be 6 r.cumulative ++ be 4 rateWord ++ be 4 pendingWord ++ be 2 r.limit ++ be 3 r.allow ++
  be 3 (r.pendingAllow.getD 0) ++ be 4 historyWord ++ be 8 r.used.toNat ++ be 5 latchWord ++ be 4 r.appendNo.toNat

/-- The 64 bytes of the record, with its CRC (R189). -/
def Record.encode (r : Record) : List Byte := r.body ++ be 2 (crc16 r.body).toNat

/-- R84 check 6: entry 0 is set when H is 1 or more, and every entry i with H - i below 1 is clear. -/
def usedWellFormed (high : Nat) (used : BitVec 64) : Bool :=
  (high = 0 || used.getLsbD 0) && (List.range 64).all fun i => i < high || !used.getLsbD i

/-- R84 check 5: every quantity lies in the range of R83. -/
def Record.inRange (r : Record) : Bool :=
  -10000000 ≤ r.credit && r.credit ≤ 999999999 && -(r.allow : Int) ≤ r.credit &&
  (r.ec != .available || 0 ≤ r.credit) &&
  r.charge ≤ 999999 && r.rate ≤ 99999999 && r.pendingRate.getD 0 ≤ 99999999 && r.limit ≤ 65000 &&
  r.allow ≤ 10000000 && r.pendingAllow.getD 0 ≤ 10000000 && r.high ≤ 99999 && r.retry ≤ 4

/-- R84: the record that 64 bytes hold, none when a check fails. Spare bits are not read (R188). -/
def readRecord (bs : List Byte) : Option Record :=
  let rateWord := field bs 25 4
  let pendingWord := field bs 29 4
  let historyWord := field bs 41 4
  let latchWord := field bs 53 5
  match Emergency.ofCode (bitsOf pendingWord 27 2), Latches.ofCode (bitsOf latchWord 0 20) with
  | some ec, some latches =>
    let r : Record := {
      generation := field bs 1 4
      credit := ofField 32 (field bs 5 4)
      shortfall := field bs 9 4
      fine := field bs 13 6
      cumulative := field bs 19 6
      rate := bitsOf rateWord 0 27
      relayClosed := bitsOf rateWord 27 1 = 1
      armed := bitsOf rateWord 28 1 = 1
      retry := bitsOf rateWord 29 3
      pendingRate := if bitsOf pendingWord 0 27 = 0 then none else some (bitsOf pendingWord 0 27)
      ec := ec
      pendingAllow := if bitsOf pendingWord 29 1 = 1 then some (field bs 38 3) else none
      limit := field bs 33 2
      allow := field bs 35 3
      high := bitsOf historyWord 0 17
      reasons := .ofCode (bitsOf historyWord 17 6)
      head := bitsOf historyWord 23 9
      used := BitVec.ofNat 64 (field bs 45 8)
      latches := latches
      charge := bitsOf latchWord 20 20
      appendNo := BitVec.ofNat 32 (field bs 58 4) }
    if field bs 0 1 = 0xA7 && crcHolds bs 62 && 1 ≤ r.generation && r.inRange && field bs 38 3 ≤ 10000000 &&
        usedWellFormed r.high r.used then some r
    else none
  | _, _ => none

/-- The generation of a verified copy. -/
def generationOf (bs : List Byte) : Nat := field bs 1 4

/-- R97: the rebuilt record of a VOID account, of generation 0 (R85). -/
def voidRecord : Record where
  generation := 0
  credit := 0
  shortfall := 0
  fine := 0
  cumulative := 0
  rate := 0
  relayClosed := false
  armed := false
  retry := 0
  pendingRate := none
  ec := .available
  pendingAllow := none
  limit := 0
  allow := 0
  high := 0
  reasons := .cold
  head := 0
  used := 0
  latches := { Latches.cold with memory := .held }
  charge := 0
  appendNo := 0

/-! ## The log record (12.4) -/

/-- The 12 bytes from the kind to C. -/
def EventRec.body (e : EventRec) : List Byte :=
  be 1 e.kind.code ++ [e.detail] ++ be 6 e.cumulative ++ be 4 (toField 32 e.credit)

/-- The 4 bytes of the event number. -/
def EventRec.numberBytes (e : EventRec) : List Byte := be 4 e.number.toNat

/-- R168: the address of slot `i` of the ring. -/
def slotAddr (r : Ring) (i : Nat) : Addr := BitVec.ofNat 16 ((r.first + i / 8) * 128 + 16 * (i % 8))

/-- R164: the capacity K. -/
def Ring.capacity (r : Ring) : Nat := 8 * r.pages

/-! ## The key (R184) -/

/-- The bytes of a range, as numbers. -/
def byteNats (bs : List Byte) (off n : Nat) : List Nat := ((bs.drop off).take n).map (·.toNat)

/-- R184 case 4: the 40 data bytes of KEY, none when a field is out of range. -/
def readKey (bs : List Byte) : Option Key :=
  let k : Key := { map := byteNats bs 0 18, mask := byteNats bs 18 18, a := field bs 36 2, b := field bs 38 2 }
  if (List.range 18).all (fun i => k.map.contains (i + 1)) && k.mask.all (fun m => m ≤ 9) &&
      1 ≤ k.a && k.a ≤ 9972 && k.b ≤ 9972 then some k
  else none

end Sys2Proof.Machine
end

