-- ==== Sys2Proof/Machine/Operands.lean ====
section
/-! DEFINITION. The forms in which a command's operands are taken: selects and addresses (R1, R6, R9), windows of pages (R28),
conversion results (R43), and the entered digits of a code (R107 to R114). -/

namespace Sys2Proof.Machine

open Sys2Proof

/-! ## Times (R38) -/

/-- R38: the crystal periods that complete `n` ms. -/
def ms (n : Nat) : Nat := (n * 32768 + 999) / 1000

/-- R38: the crystal periods that complete `n` steps of 0.5 ms. -/
def halfMs (n : Nat) : Nat := (n * 32768 + 1999) / 2000

/-! ## Selects and addresses -/

/-- R1: the select is memory-class: 1010, then three bits that equal the straps where the mask does not free them. -/
def isMemoryClass (strap mask : BitVec 3) (select : BitVec 7) : Bool :=
  select.extractLsb' 3 4 = 0b1010#4 && (select.extractLsb' 0 3 ^^^ strap) &&& ~~~mask = 0#3

/-- R1: the select of the part's own transactions. -/
def exactSelect (strap : BitVec 3) : BitVec 7 := 0b1010#4 ++ strap

/-- R1, R14: the select of the transactions of the part's jobs, by the sampled straps. -/
def Path.select (p : Path) : BitVec 7 := exactSelect p.strap

/-- The page number of an address (R6). -/
def pageOf (a : Addr) : Nat := a.toNat / 128

/-- The offset of an address within its page. -/
def offsetOf (a : Addr) : Nat := a.toNat % 128

/-- The address of a page's first byte. -/
def pageAddr (page : Nat) : Addr := BitVec.ofNat 16 (page * 128)

/-- R9: the memory's counter after `n` written bytes: it stays within the page. -/
def advanceInPage (a : Addr) (n : Nat) : Addr := BitVec.ofNat 16 (pageOf a * 128 + (offsetOf a + n) % 128)

/-- R10: the memory's counter after `n` read bytes: it crosses pages and wraps at 0xFFFF. -/
def advanceRead (a : Addr) (n : Nat) : Addr := a + BitVec.ofNat 16 n

/-! ## Windows (R28) -/

/-- The window of a region's pages. -/
def RegionKind.window : RegionKind → Window
  | .sealedRegion => .sealedPage
  | .account => .account
  | .log => .log
  | .live => .live
  | .inbox => .inbox

/-- R28: the window of a page. -/
def WindowMap.windowOf (w : WindowMap) (page : Nat) : Window :=
  if page = 0 then .page0
  else if page = 1 then .page1
  else if w.configured then
    match w.table.find? (·.holds page) with
    | some r => r.kind.window
    | none => .openPage
  else .openPage

/-- The region of a kind in the table in force. -/
def WindowMap.region (w : WindowMap) (k : RegionKind) : Option Region := w.table.find? fun r => r.kind = k

/-- R24, R28: the page of a slot: slot A is the ACCOUNT region's first page, slot B its second. -/
def WindowMap.slotPage (w : WindowMap) (s : Slot) : Nat :=
  let first := ((w.region .account).map (·.first)).getD 0
  match s with
  | .a => first
  | .b => first + 1

/-- R24: the ring that the LOG region gives the Log Writer. -/
def WindowMap.ring (w : WindowMap) : Option Ring :=
  (w.region .log).map fun r => { first := r.first, pages := r.count }

/-! ## Reads of a job -/

/-- The bytes of a read that ended whole, none of a read that failed. -/
def readBytes {n : Nat} : ReadResult n → Option (List Byte)
  | .bytes v => some v.toList
  | _ => none

/-- R14 with R6, R9 and R10: where a job's random read of `n` bytes at `a` leaves the mirror pointer. -/
def readMirror {n : Nat} (r : ReadResult n) (a : Addr) (before : Option Addr) : Option Addr :=
  match r with
  | .bytes _ => some (advanceRead a n)
  | .selectNack => before
  | .wordNack => none
  | .readSelectNack => some a

/-- R14 with R6 and R9: where a job's write of `n` bytes at `a` leaves the mirror pointer. -/
def writeMirror (r : WriteResult) (a : Addr) (n : Nat) : Option Addr :=
  match r with
  | .acked => some (advanceInPage a n)
  | .wordNack => none
  | .dataNack => none

/-! ## Conversions (R43) -/

/-- R43: the raw conversion less the channel's offset, saturated to -32768..32767. -/
def sample (raw : BitVec 16) (offset : Int) : Int := max (-32768) (min 32767 (raw.toInt - offset))

/-- The offset of an auxiliary channel (R43). -/
def Calibration.auxOffset (c : Calibration) : Monitor → Int
  | .hall => c.offHall
  | .temp => c.offTemp
  | .loadv => c.offLoadv

/-- R45: the rotation list HALL, TEMP, LOADV. -/
def Monitor.next : Monitor → Monitor
  | .hall => .temp
  | .temp => .loadv
  | .loadv => .hall

/-! ## Entered codes -/

/-- R107: the 18 entered digits, none when the submission is MALFORMED. -/
def Submission.digits (p : Submission) : Option (List Nat) :=
  if p.bytes.length = 18 && !p.overLength && !p.busError && p.bytes.all (fun b => 0x30 ≤ b.toNat && b.toNat ≤ 0x39) then
    some (p.bytes.map fun b => b.toNat - 0x30)
  else none

/-- R109: the unscrambled digits: position i takes the entered digit at the mapped position, less its mask digit mod 10. -/
def unscramble (k : Key) (t : List Nat) : List Nat :=
  (List.range 18).map fun i => (t.getD (k.map.getD i 0 - 1) 0 + 10 - k.mask.getD i 0) % 10

/-- Digits read as one decimal number, the first most significant. -/
def decimal (ds : List Nat) : Nat := ds.foldl (fun acc d => acc * 10 + d) 0

/-- R109: the fields of a code. -/
structure CodeFields where
  kind : Nat
  seq : Nat
  value : Nat
  check : Nat
  /-- R110: the fourteen digits before the check, as one number. -/
  n14 : Nat
deriving DecidableEq, Repr

/-- R109: the fields of the unscrambled digits. -/
def codeFields (u : List Nat) : CodeFields where
  kind := u.getD 0 0
  seq := decimal ((u.drop 1).take 5)
  value := decimal ((u.drop 6).take 8)
  check := decimal ((u.drop 14).take 4)
  n14 := decimal (u.take 14)

/-- R110: the check digits agree. -/
def CodeFields.passes (f : CodeFields) (k : Key) : Bool := f.check = (f.n14 * k.a + k.b) % 9973

/-- R111: the kind of code a digit names, TEST and the unnamed digits apart. -/
def CodeKind.ofDigit : Nat → Option CodeKind
  | 1 => some .credit
  | 2 => some .rate
  | 3 => some .limit
  | 4 => some .clear
  | 5 => some .allowance
  | _ => none

/-- R114: the value lies in the range of its kind. -/
def CodeKind.valueOk (k : CodeKind) (v : Nat) : Bool :=
  match k with
  | .credit => 1 ≤ v && v ≤ 99999999
  | .rate => 1 ≤ v && v ≤ 99999999
  | .limit => v ≤ 65000
  | .clear => 1 ≤ v && v ≤ 1023
  | .allowance => v ≤ 1000000

/-- R114: kind k is named by a CLEAR value, or a tamper-kind set, when its bit k is set. -/
def named (mask : BitVec 10) (k : TamperKind) : Bool := mask.getLsbD k.num

/-- 0, C_max: the largest credit balance. -/
def creditMax : Int := 999999999

end Sys2Proof.Machine
end

