-- ==== Sys2Proof/Machine/Flags.lean ====
section
/-! DEFINITION. The conditions, flags and tests that the part computes from its state: isolation (R19), frames running (R42), the
monitors' tests (R48 to R51), the block's figures (R59 to R63), the floor and the reported conditions (R71, R75, R76), the tests
of a capture (R136), the trip condition (R160), the sequence-number judgement (R112), the status byte (R182) and the two views
(R32, R34). -/

namespace Sys2Proof.Machine

open Sys2Proof

/-! ## Path Unit and Sampling Unit -/

/-- R19: at least one isolation cause is present. -/
def Path.isolated (p : Path) : Bool := p.causeStartUp || p.causePower || p.causePage

/-- R42: the loop is LOCKED and the converter CALIBRATED. -/
def Sampling.framesRunning (m : Sampling) : Bool := m.loop = .locked && m.conv = .calibrated

/-- What a result points toward (R48). -/
inductive Toward where
  | active
  | absent
  | neither
deriving DecidableEq, Repr

/-- R49 to R51: the active length and the absent length of a monitor. -/
def Monitor.lengths : Monitor → Nat × Nat
  | .hall => (3, 48)
  | .temp => (8, 8)
  | .loadv => (5, 5)

/-- R49. -/
def hallToward (c : Calibration) (v : Int) : Toward := if v < c.hLo ∨ c.hHi < v then .active else .absent

/-- R50. -/
def tempToward (c : Calibration) (v : Int) : Toward :=
  if c.tTrip < v then .active else if v < c.tClear then .absent else .neither

/-- R51: on a block that has a LOADV rotation sample. -/
def loadvToward (c : Calibration) (blockMax : Nat) : Toward := if c.vOn ≤ blockMax then .active else .absent

/-- R48: the run counts after a result; a run stops at its length. -/
def MonitorState.count (m : MonitorState) (lengths : Nat × Nat) (t : Toward) : MonitorState :=
  match t with
  | .active => { m with activeRun := min (m.activeRun + 1) lengths.1, absentRun := 0 }
  | .absent => { m with absentRun := min (m.absentRun + 1) lengths.2, activeRun := 0 }
  | .neither => { m with activeRun := 0, absentRun := 0 }

/-- R48: a run toward the other state has reached its length. -/
def MonitorState.due (m : MonitorState) (lengths : Nat × Nat) : Bool :=
  if m.active then lengths.2 ≤ m.absentRun else lengths.1 ≤ m.activeRun

/-- R48: the change of state: the run that made it returns to 0. -/
def MonitorState.change (m : MonitorState) : MonitorState :=
  if m.active then { m with active := false, absentRun := 0 } else { m with active := true, activeRun := 0 }

/-- A monitor of the Sampling Unit. -/
def Sampling.monitor (m : Sampling) : Monitor → MonitorState
  | .hall => m.hall
  | .temp => m.temp
  | .loadv => m.loadv

/-- The Sampling Unit with one monitor replaced. -/
def Sampling.setMonitor (m : Sampling) (k : Monitor) (v : MonitorState) : Sampling :=
  match k with
  | .hall => { m with hall := v }
  | .temp => { m with temp := v }
  | .loadv => { m with loadv := v }

/-! ## The block's figures (4.3) -/

/-- One mWh in fine units. -/
def mWh : Nat := 2 ^ 48

/-- R63: the overload result. -/
inductive Overload where
  | noLimit
  | over
  | notOver
deriving DecidableEq, Repr

/-- What the block sums of a completed block give, before charging. -/
structure BlockFigures where
  /-- R62: above creep. -/
  above : Bool
  /-- R62: imbalance met. -/
  imbalance : Bool
  /-- R62: billed sum negative. -/
  negative : Bool
  overload : Overload
  /-- R61: the billed energy after creep and the magnet floor. -/
  billed : Nat
deriving DecidableEq, Repr

/-- R61: the magnet floor. -/
def magnetFloor (c : Calibration) : Nat := c.pPen * mWh / 180

/-- R63: the overload comparison on the energy after creep. -/
def overloadOf (energy limit : Nat) : Overload :=
  if limit = 0 then .noLimit else if limit * mWh < energy * 180 then .over else .notOver

/-- R59 to R63: the figures of a block with sums `sl` and `sn`, the latch MAGNET being ACTIVE or not. -/
def blockFigures (c : Calibration) (sl sn : Int) (limit : Nat) (magnetActive : Bool) : BlockFigures :=
  let el := sl.natAbs * c.gl
  let en := sn.natAbs * c.gn
  let e := max el en
  let above := c.pCreep * mWh ≤ e * 180
  let measured := if above then e else 0
  { above := above
    imbalance := e * c.ratio < ((el : Int) - en).natAbs * 256
    negative := (if en ≤ el then sl else sn) < 0
    overload := overloadOf measured limit
    billed := if magnetActive then max measured (magnetFloor c) else measured }

/-! ## Floor and conditions -/

/-- R71: the floor of C. -/
def Engine.floor (e : Engine) : Int := if e.ec = .available then 0 else -(e.allow : Int)

/-- R75: the credit condition. -/
def Engine.creditCondition (e : Engine) : Bool :=
  e.account && (if e.ec = .available then e.credit ≤ 0 else e.credit ≤ -(e.allow : Int))

/-- R75: the low-credit flag. -/
def Engine.lowCredit (e : Engine) (wLow : Nat) : Bool := e.account && e.credit < wLow

/-- R76: the rate-unset condition. -/
def Engine.rateUnset (e : Engine) : Bool := !e.account || e.rate = 0

/-- R160: the trip condition. -/
def tripCondition (mask : BitVec 10) (l : Latches) : Bool := tamperKinds.any fun k => named mask k && l.get k != .clear

/-- R136: IL present, on a sum of squares over 64 frames. -/
def ilPresent (c : Calibration) (sum : Nat) : Bool := 64 * (c.creepCurrent * c.creepCurrent) ≤ sum

/-- R136: LOADV present, on a capture's largest magnitude. -/
def loadvPresent (c : Calibration) (largest : Nat) : Bool := c.vOn ≤ largest

/-- The direction of a relay state: CLOSED for CLOSED and CLOSING (R124). -/
def Relay.towardClosed : Relay → Bool
  | .closed => true
  | .closing => true
  | .opened => false
  | .opening => false

/-- R136: a capture confirms the direction. -/
def confirms (c : Calibration) (closed : Bool) (largest sum : Nat) : Bool :=
  if closed then loadvPresent c largest else !loadvPresent c largest && !ilPresent c sum

/-- R126: UNSET has a source. -/
def Switch.unsetSource (w : Switch) : Bool := w.unconfigured || w.rateUnset || w.account = .void

/-- R142: the LIMIT delay by the retry stage at the trip, in seconds. -/
def limitDelayOf : Nat → Nat
  | 0 => 30
  | 1 => 60
  | 2 => 120
  | 3 => 240
  | _ => 480

/-! ## Sequence numbers (R112) -/

/-- The judgement of a sequence number. -/
inductive SeqJudgement where
  | fresh
  | old
  | used
deriving DecidableEq, Repr

/-- R112: a sequence number against H and the used-set, by the first case that holds. -/
def judgeSeq (high : Nat) (used : BitVec 64) (s : Nat) : SeqJudgement :=
  if high = 99999 then .old
  else if s = 0 then .old
  else if high < s then .fresh
  else if used.getLsbD (high - s) then .used
  else if high < s + 64 then .fresh
  else .old

/-- R113: H and the used-set with `s` joined. -/
def joinSeq (high : Nat) (used : BitVec 64) (s : Nat) : Nat × BitVec 64 :=
  if high < s then (s, used <<< (s - high) ||| 1#64) else (high, used ||| (1#64 <<< (high - s)))

/-! ## The status byte (R182, 12.7) -/

/-- The bits of the status byte, bit 0 first: the order in which PDO shifts them out. -/
def statusBits (s : State) : List Bool :=
  let account := s.sto.state.code
  [ s.port.sealed, s.dec.key.isSome, s.win.page0Valid, s.win.page1Valid,
    account % 2 = 1, account / 2 % 2 = 1, s.sto.stage != .idle,
    s.sup.phase = .warned || s.sup.phase = .held || s.sup.phase = .resuming ]

/-! ## The live view (R32, 12.6) -/

/-- R79: live power from a full window. -/
def Engine.updatePower (e : Engine) : Engine :=
  if 50 ≤ e.winCount then { e with power := e.winSum * 36 / (10 * mWh), winCount := 0, winSum := 0 } else e

/-- R32: the 64 bytes of the live view. R33: live power is that of every completed block, its LIVE_POWER_UPDATE taken or not (log entry
8). -/
def liveView (s : State) : List Byte :=
  let e := s.eng.updatePower
  be 4 (toField 32 e.credit) ++ be 4 e.shortfall ++ be 6 e.cumulative ++ be 6 e.fine ++ be 4 e.rate ++
  be 4 (e.pendingRate.getD 0) ++ be 2 e.limit ++ be 3 e.allow ++ be 1 (bit e.pendingAllow.isSome) ++
  be 3 (e.pendingAllow.getD 0) ++ be 1 e.ec.code ++ be 1 (bit e.lowFlag) ++ be 2 (min e.power 65535) ++
  be 1 s.sw.relay.code ++ be 1 s.sw.reasons.code ++ be 1 (bit s.sw.armed) ++ be 3 s.tam.latches.code ++
  be 1 s.sto.state.code ++ be 4 s.log.nextNo.toNat ++ be 1 (min s.log.lost 255) ++
  be 1 (bit s.win.configured + bit s.win.calFromPage1 * 2 + bit s.port.sealed * 4) ++ be 10 0

/-! ## The outcome view (R34, 12.5) -/

/-- A record position: nine bytes. -/
def OutcomeRec.bytes (r : OutcomeRec) : List Byte :=
  [r.tag] ++ be 1 r.outcome.code ++ be 1 (bit r.kindSeq.isSome + bit r.detail.isSome * 2) ++
  be 1 ((r.kindSeq.map (·.1)).getD 0) ++ be 3 ((r.kindSeq.map (·.2)).getD 0) ++
  be 2 ((r.detail.map (·.toNat)).getD 0)

/-- R34: the 37 bytes of the outcome view; a position beyond the record count reads as zeros. -/
def outcomeView (s : State) : List Byte :=
  let rs := s.dec.outcomes.take 4
  be 1 rs.length ++ (rs.map OutcomeRec.bytes).flatten ++ be (9 * (4 - rs.length)) 0

end Sys2Proof.Machine
end

