-- ==== Sys2Proof/Machine/Ops.lean ====
section
/-! DEFINITION. The shared operations that every block uses: changing one block's state, the lines, the waiting jobs (R3), raising
an event (R165, R166, R172), asking for a commit (R86, R87), the open-reason set and the start of relay operations (R125 to R128,
R132), the latches (R149, R160), and reporting the conditions (R75, R76). Each takes the state and gives the state after it. -/

namespace Sys2Proof.Machine

open Sys2Proof

/-! ## One block at a time -/

/-- The state with its input lines changed. -/
def State.modPins (s : State) (f : Pins → Pins) : State := { s with pins := f s.pins }
/-- The state with its output lines changed. -/
def State.modLines (s : State) (f : Lines → Lines) : State := { s with lines := f s.lines }
/-- The state with the Path Unit changed. -/
def State.modPath (s : State) (f : Path → Path) : State := { s with path := f s.path }
/-- The state with the Window Map changed. -/
def State.modWin (s : State) (f : WindowMap → WindowMap) : State := { s with win := f s.win }
/-- The state with the Sampling Unit changed. -/
def State.modSmp (s : State) (f : Sampling → Sampling) : State := { s with smp := f s.smp }
/-- The state with the Energy Engine changed. -/
def State.modEng (s : State) (f : Engine → Engine) : State := { s with eng := f s.eng }
/-- The state with the Account Store changed. -/
def State.modSto (s : State) (f : Store → Store) : State := { s with sto := f s.sto }
/-- The state with the Code Decoder changed. -/
def State.modDec (s : State) (f : Decoder → Decoder) : State := { s with dec := f s.dec }
/-- The state with the Switch Controller changed. -/
def State.modSw (s : State) (f : Switch → Switch) : State := { s with sw := f s.sw }
/-- The state with the Tamper Monitor changed. -/
def State.modTam (s : State) (f : Tamper → Tamper) : State := { s with tam := f s.tam }
/-- The state with the Log Writer changed. -/
def State.modLog (s : State) (f : EventLog → EventLog) : State := { s with log := f s.log }
/-- The state with the Supply Monitor changed. -/
def State.modSup (s : State) (f : Supply → Supply) : State := { s with sup := f s.sup }
/-- The state with the Commissioning Port changed. -/
def State.modPort (s : State) (f : Port → Port) : State := { s with port := f s.port }

/-! ## Lines -/

/-- The part puts these on the memory segment. -/
def emit (acts : List SegAct) (s : State) : State := s.modLines fun l => { l with seg := l.seg ++ acts }

/-- R14, R18: a transaction of a job goes onto the memory segment, or, while a STOP is owed there, waits behind it; one that has not
begun by then gives way to the next. -/
def issue (act : OwnAct) (s : State) : State :=
  if s.path.stopOwed then s.modPath fun p => { p with behind := [.own p.select act] } else emit [.own s.path.select act] s

/-- The host sees this acknowledge. -/
def answer (ack : Bool) (s : State) : State := s.modLines fun l => { l with hostAck := some ack }

/-- The host is given this byte. -/
def give (b : Byte) (s : State) : State := s.modLines fun l => { l with hostByte := some b }

/-- A host byte that meets released lines: NACK to a written byte, 0xFF for a read one (R16, R19; log entry 13). -/
def releasedByte (dir : Dir) (s : State) : State :=
  match dir with
  | .write => answer false s
  | .read => give 0xFF s

/-! ## A host byte that is carried (R4, R18) -/

/-- R1: the select sorts as memory-class. -/
def State.memoryClass (s : State) (select : BitVec 7) : Bool := isMemoryClass s.path.strap s.win.selectMask select

/-- R6: the mirror pointer at the end of a host transaction: UNKNOWN between the word-address bytes. -/
def Path.endMirror (p : Path) : Option Addr :=
  match p.phase with
  | .wordHigh _ _ => none
  | _ => p.mirror

/-- R4: the select of an address byte that the part is clocking on the memory segment, under case 4. An isolation cause that is set
while the byte is under way takes it off the segment: it is answered NACK, and no fault of R18 meets it (R19; DESIGN CHOICE: log entry
38). -/
def State.carriedAddress (s : State) : Option (BitVec 7) :=
  match s.pins.carried with
  | some (.address select dir) =>
    if s.path.isolated || s.path.owner = .own || (s.memoryClass select && dir = .read && s.path.endMirror.isNone) then none
    else some select
  | some .later | none => none

/-- R18: the part is clocking the memory segment: throughout a job, and for the host while it carries a byte there, or the STOP that
ends the transaction at its first data byte (DESIGN CHOICE: log entry 38). -/
def State.clocking (s : State) : Bool :=
  s.path.run.isSome || s.carriedAddress.isSome ||
    (s.path.owner = .host && (s.path.stopping || (s.path.segOpen && s.pins.carried = some .later)))

/-! ## Waiting jobs (R3) -/

/-- A job joins the waiting list; each owner has at most one of each kind waiting. -/
def addJob (k : JobKind) (s : State) : State :=
  if s.path.jobs.contains k then s else s.modPath fun p => { p with jobs := p.jobs ++ [k] }

/-- A waiting job is withdrawn. -/
def dropJob (k : JobKind) (s : State) : State := s.modPath fun p => { p with jobs := p.jobs.filter (· != k) }

/-- The order of R3. -/
def jobOrder : List JobKind := [.startUpReads, .urgentCommit, .commit, .pageWrite, .logAppend, .restore]

/-- The first waiting job in the order of R3. -/
def Path.firstJob (p : Path) : Option JobKind := jobOrder.find? p.jobs.contains

/-- R20: from hold exit until the hold-exit check has ended, no other job is started. -/
def Supply.holdsJobs (p : Supply) : Bool := p.step = .exitLock || p.step = .exitCal || p.step = .exitCheck

/-- R2, R20: the job to be granted: the segment FREE and no host START with its address byte under way there (log entry 38), not in HOLD,
the first waiting in the order of R3. -/
def nextJob (s : State) : Option JobKind :=
  if s.path.owner = .free && s.carriedAddress.isNone && s.sup.phase != .held then
    if s.sup.holdsJobs then (if s.path.jobs.contains .startUpReads then some .startUpReads else none)
    else s.path.firstJob
  else none

/-- R2, R86: the grant of a commit job is due. -/
def commitGrantDue (s : State) : Bool := nextJob s = some .commit || nextJob s = some .urgentCommit

/-! ## Events (R165, R166, R172) -/

/-- R166: one event more that is not logged, up to 65,535. -/
def countLost (s : State) : State := s.modLog fun l => { l with lost := min (l.lost + 1) 65535 }

/-- R165: an event completed as a record at this moment, under a number. -/
def eventRec (k : EventKind) (detail : Nat) (number : BitVec 32) (s : State) : EventRec where
  number := number
  kind := k
  detail := BitVec.ofNat 8 detail
  cumulative := s.eng.cumulative
  credit := s.eng.credit

/-- R166: the record joins a queue that has room, takes the next number, and asks for an append job from IDLE or BACKOFF (R169). -/
def queueEvent (k : EventKind) (detail : Nat) (s : State) : State :=
  let t := s.modLog fun l => { l with queue := l.queue ++ [eventRec k detail l.nextNo s], nextNo := l.nextNo + 1 }
  if s.log.stage = .idle ∨ s.log.stage = .backoff then
    addJob .logAppend (t.modLog fun l => { l with stage := .queued })
  else t

/-- R166, R172: an event is raised to the Log Writer. Before recovery ends it is held without a number; without a ring it is
discarded; with a full queue it is counted. -/
def raiseEvent (k : EventKind) (detail : Nat) (s : State) : State :=
  if s.log.recovering then
    if s.log.queue.length < 8 then s.modLog fun l => { l with queue := l.queue ++ [eventRec k detail 0 s] } else countLost s
  else if s.log.ring.isNone then s
  else if s.log.queue.length < 8 then queueEvent k detail s
  else countLost s

/-! ## Commit requests (R85, R86, R87) -/

/-- R86: the job that carries out a request. -/
def Trigger.job (t : Trigger) : JobKind := if t = .powerFail then .urgentCommit else .commit

/-- R85: the verified copy's generation is the last one. -/
def Store.generationEnded (a : Store) : Bool :=
  match a.verified with
  | some bs => generationOf bs = 4294967295
  | none => false

/-- R87: a request while one is waiting keeps the better rank, and POWERFAIL swaps the waiting job for an URGENT COMMIT. -/
def mergeRequest (t w : Trigger) (s : State) : State :=
  if t.rank < w.rank then
    let s := s.modSto fun a => { a with waiting := some t }
    if t = .powerFail then addJob .urgentCommit (dropJob .commit s) else s
  else s

/-- R86, R87: a commit request. It is discarded in account state NONE; at the end of the generations it is ended (R85), which
`concludeEnded` carries out within the same command. -/
def requestCommit (t : Trigger) (s : State) : State :=
  if s.sto.state = .noAccount then s
  else if s.sto.generationEnded then s.modSto fun a => { a with ended := a.ended ++ [t] }
  else match s.sto.waiting with
    | none => addJob t.job (s.modSto fun a =>
        { a with waiting := some t, stage := if a.stage = .inFlight then .inFlight else .queued })
    | some w => mergeRequest t w s

/-! ## Tamper conditions that go absent (R149) -/

/-- The condition state of a condition kind, set. -/
def Tamper.setCond (t : Tamper) (k : TamperKind) (v : Bool) : Tamper :=
  match k with
  | .caseOpen => { t with caseCond := v }
  | .cover => { t with coverCond := v }
  | .magnet => { t with magnet := v }
  | .imbalance => { t with imbalance := v }
  | .reverse => { t with reverse := v }
  | .bypass => { t with bypass := v }
  | .relay | .port | .memory | .path => t

/-- R149: an absent condition takes an ACTIVE latch to HELD, which hands nothing on and leaves the trip condition as it is. -/
def conditionAbsent (k : TamperKind) (s : State) : State :=
  s.modTam fun t =>
    let t := t.setCond k false
    if t.loaded && t.latches.get k = .active then { t with latches := t.latches.set k .held } else t

/-- R140: the BYPASS condition is reported absent, unless it already is. -/
def bypassAbsent (s : State) : State :=
  if s.sw.bypass then conditionAbsent .bypass (s.modSw fun w => { w with bypass := false }) else s

/-! ## The open-reason set and relay operations (R125 to R128, R132) -/

/-- R132: an operation starts: attempt 1 with its crossing wait. An opening clears the overload run (R127); the open period ends
and BYPASS is reported absent (R139, R140). -/
def startOperation (closing : Bool) (reason : Option Reason) (s : State) : State :=
  bypassAbsent (s.modSw fun w => { w with
    relay := if closing then .closing else .opening
    op := some { attempt := 1, step := .crossingWait 0, unsync := false, reason := reason }
    overRun := if closing then w.overRun else 0
    openPeriod := false
    ilRun := 0 })

/-- R132: no operation starts while the holdback is HELD or another is in flight. -/
def Switch.mayStart (w : Switch) : Bool := !w.held && w.op.isNone

/-- R127: a reason enters the set. -/
def enterReason (r : Reason) (s : State) : State :=
  let s := s.modSw fun w => { w with reasons := w.reasons.put r true, armed := false }
  let s := if s.sw.relay = .closed && s.sw.mayStart then startOperation false (some r) s else s
  requestCommit .switch s

/-- R141: the overload trips when the run has reached 250. -/
def overloadTrip (s : State) : State :=
  if 250 ≤ s.sw.overRun then
    let s := s.modSw fun w => { w with
      limitDelay := limitDelayOf w.retry, retry := min (w.retry + 1) 4, clean := 0, overRun := 0 }
    if s.sw.reasons.limit then s else enterReason .limit s
  else s

/-- R127, R141, R147: a reason enters the set after the trip that a run of 250 has made due, whose result came first (log entry 8). -/
def reasonEnters (r : Reason) (s : State) : State := enterReason r (overloadTrip s)

/-- R128: the reasons that the meter removes by itself. -/
def Reason.recloses : Reason → Bool
  | .limit => true
  | .thermal => true
  | .credit => false
  | .tamper => false
  | .store => false
  | .unset => false

/-- R128: the set has emptied with `r` the last to leave. -/
def lastReasonLeft (r : Reason) (s : State) : State :=
  match s.sw.relay with
  | .opened =>
    if r.recloses then (if s.sw.mayStart then startOperation true none s else s)
    else s.modSw fun w => { w with armed := true }
  | .opening => if r.recloses then s else s.modSw fun w => { w with armed := true }
  | .closed => s
  | .closing => s

/-- R125, R128: a reason leaves the set. -/
def reasonLeaves (r : Reason) (s : State) : State :=
  let s := s.modSw fun w => { w with reasons := w.reasons.put r false }
  let s := if s.sw.reasons.isEmpty then lastReasonLeft r s else s
  requestCommit .switch s

/-- R125: a reason follows its source; a report that agrees with the set changes nothing. -/
def follow (r : Reason) (want : Bool) (s : State) : State :=
  if s.sw.reasons.has r = want then s else if want then reasonEnters r s else reasonLeaves r s

/-- R126: a source of UNSET has been reported present or absent: a present one makes UNSET enter, and the last one to be absent
makes it leave; an absent one beside a present one changes nothing. -/
def followUnset (present : Bool) (s : State) : State :=
  if present then follow .unset true s else if s.sw.unsetSource then s else follow .unset false s

/-- R125, R126: a report is taken. -/
def takeReport (r : Report) (s : State) : State :=
  match r with
  | .credit b => follow .credit b (s.modSw fun w => { w with creditCond := b })
  | .trip b => follow .tamper b (s.modSw fun w => { w with trip := b })
  | .temp b => follow .thermal b (s.modSw fun w => { w with tempHot := b })
  | .rateUnset b => followUnset b (s.modSw fun w => { w with rateUnset := b })
  | .unconfigured b => followUnset b (s.modSw fun w => { w with unconfigured := b })
  | .account a => followUnset (a = .void) (follow .store (a = .storeFault) (s.modSw fun w => { w with account := a }))

/-- R144: a report that comes before the record's fields have been taken is held. -/
def report (r : Report) (s : State) : State :=
  if s.sw.awaitRecord then s.modSw fun w => { w with heldReports := w.heldReports ++ [r] } else takeReport r s

/-! ## Latches (R149, R160) -/

/-- R160: the trip condition is evaluated, and a changed value handed to the Switch Controller. -/
def evalTrip (s : State) : State :=
  let t := tripCondition s.win.cal.tripMask s.tam.latches
  if t = s.tam.tripReported then s else report (.trip t) (s.modTam fun m => { m with tripReported := t })

/-- R149: a latch move that hands something on: the event, the trip condition (`trip`: not at loading and not within a CLEAR, which
report once for all their moves, R150, R161), the LATCH request. -/
def moveLatch (trip : Bool) (k : TamperKind) (v : Latch) (e : EventKind) (s : State) : State :=
  let s := raiseEvent e k.num (s.modTam fun t => { t with latches := t.latches.set k v })
  requestCommit .latch (if trip then evalTrip s else s)

/-- R149: the latch's condition becomes present. -/
def latchPresent (trip : Bool) (k : TamperKind) (s : State) : State :=
  if s.tam.latches.get k = .active then s else moveLatch trip k .active .tamperSet s

/-- R149: a one-shot finding of the latch's kind. -/
def latchFinding (trip : Bool) (k : TamperKind) (s : State) : State :=
  if s.tam.latches.get k = .clear then moveLatch trip k .held .tamperSet s else s

/-- R162: a condition that moves its latch meets the grant of a commit job that is due: a further commit follows (DEDUCED: log entry
34). -/
def meetGrant (k : TamperKind) (s : State) : State :=
  if s.tam.latches.get k != .active && commitGrantDue s then s.modSto fun a => { a with further := true } else s

/-- R149, R151, R162: a condition becomes present; before the latches are loaded it waits as present (R150). -/
def conditionPresent (k : TamperKind) (s : State) : State :=
  let s := s.modTam fun t => t.setCond k true
  if s.tam.loaded then latchPresent true k (meetGrant k s) else s

/-- R150: a one-shot kind joins the waiting findings. -/
def Findings.add (f : Findings) : TamperKind → Findings
  | .relay => { f with relay := true }
  | .port => { f with port := true }
  | .memory => { f with memory := true }
  | .path => { f with path := true }
  | .caseOpen | .cover | .magnet | .imbalance | .reverse | .bypass => f

/-- R150, R158, R159: a one-shot finding is handed over; before the latches are loaded it waits. -/
def finding (k : TamperKind) (s : State) : State :=
  if s.tam.loaded then latchFinding true k s else s.modTam fun t => { t with waiting := t.waiting.add k }

/-- R140: the BYPASS condition is reported present, unless it already is. -/
def bypassPresent (s : State) : State :=
  if s.sw.bypass then s else conditionPresent .bypass (s.modSw fun w => { w with bypass := true })

/-- R161 step 1: the named kinds of a list that are HELD become CLEAR. -/
def clearHeld (mask : BitVec 10) : List TamperKind → State → State
  | [], s => s
  | k :: ks, s =>
    clearHeld mask ks
      (if named mask k && s.tam.latches.get k = .held then moveLatch false k .clear .tamperCleared s else s)

/-- R161 step 3: the set of named latches that are ACTIVE. -/
def leftActive (mask : BitVec 10) (l : Latches) : BitVec 10 :=
  BitVec.ofNat 10 ((tamperKinds.map fun k => bit (named mask k && l.get k = .active) * 2 ^ k.num).sum)

/-- R161: a committed CLEAR is applied to the live latches, the named ones in the order of k (DESIGN CHOICE: log entry 33). -/
def applyClear (mask : BitVec 10) (s : State) : State := evalTrip (clearHeld mask tamperKinds s)

/-! ## Conditions of the Energy Engine (R75, R76, R143) -/

/-- R143: LOWCR follows a reported flag; it is inactive through HOLD. -/
def setLowcr (low : Bool) (s : State) : State := s.modSw fun w => { w with lowcr := low && s.sup.phase != .held }

/-- R75: the credit condition is handed over when it differs from the one last reported. -/
def reportCredit (s : State) : State :=
  let c := s.eng.creditCondition
  if c = s.eng.repCredit then s else report (.credit c) (s.modEng fun e => { e with repCredit := c })

/-- R75: the low-credit flag takes its value, and a changed one is handed over. -/
def reportLow (s : State) : State :=
  let low := s.eng.lowCredit s.win.cal.wLow
  let s := s.modEng fun e => { e with lowFlag := low }
  if low = s.eng.repLow then s else setLowcr low (s.modEng fun e => { e with repLow := low })

/-- R75: both are evaluated. -/
def evalConditions (s : State) : State := reportLow (reportCredit s)

/-- R76: the rate-unset condition is reported. -/
def reportRateUnset (s : State) : State :=
  let u := s.eng.rateUnset
  report (.rateUnset u) (s.modEng fun e => { e with repUnset := u })

/-! ## Limits (R63, R141) -/

/-- R63: a pending limit comes into force, and the Switch Controller's overload run restarts. -/
def limitInForce (s : State) : State :=
  match s.eng.pendingLimit with
  | none => s
  | some l => (s.modEng fun e => { e with limit := l, pendingLimit := none }).modSw fun w => { w with overRun := 0 }

/-- R57: a discarded block: the sums are dropped and a pending limit comes into force. -/
def discardBlock (s : State) : State := limitInForce (s.modEng fun e => { e with sl := 0, sn := 0 })

end Sys2Proof.Machine
end

