-- ==== Sys2Proof/Machine/CodeOps.lean ====
section
/-! DEFINITION. The Code Decoder's shared operations (chapter 6): taking the bytes of a submission (R101, R102), its end (R103), the
turn (R106 to R116), the end of the commit that carries a code (R117 to R119) and the drop at the warning (R122). -/

namespace Sys2Proof.Machine

open Sys2Proof

/-! ## Records and places (R100, R104) -/

/-- R104: a record enters at the head of the list; with four already there the oldest leaves. -/
def Decoder.enter (d : Decoder) (r : OutcomeRec) : Decoder := { d with outcomes := (r :: d.outcomes).take 4 }

/-- R104: the record of an entry is changed in place. -/
def Decoder.updateRecord (d : Decoder) (entry : Nat) (f : OutcomeRec → OutcomeRec) : Decoder :=
  { d with outcomes := d.outcomes.map fun r => if r.entry = entry then f r else r }

/-- A place becomes FREE. -/
def Decoder.freePlace (d : Decoder) (entry : Nat) : Decoder :=
  { d with places := d.places.filter fun p => p.entry != entry }

/-- The submission of an entry is changed. -/
def Decoder.updatePlace (d : Decoder) (entry : Nat) (f : Submission → Submission) : Decoder :=
  { d with places := d.places.map fun p => if p.entry = entry then f p else p }

/-- The FILLING submission. -/
def Decoder.filling (d : Decoder) : Option Submission := d.places.find? fun p => p.state = .filling

/-- R106: the oldest READY submission. -/
def Decoder.ready (d : Decoder) : Option Submission := d.places.find? fun p => p.state = .ready

/-- The change of an ACTIVE place. -/
def PlaceState.change? : PlaceState → Option Change
  | .active c => some c
  | .filling => none
  | .ready => none

/-- The ACTIVE submission with its change. -/
def Decoder.active (d : Decoder) : Option (Submission × Change) :=
  d.places.findSome? fun p => p.state.change?.map fun c => (p, c)

/-! ## Capture (R101, R102) -/

/-- R101: the first data byte of an INBOX write, with the offset of its word address: the answer and the state after it. -/
def inboxFirst (offset : Nat) (b : Byte) (s : State) : Bool × State :=
  if offset = 0 ∧ s.dec.places.length < 2 then
    (true, s.modDec fun d =>
      let e := d.nextEntry
      { d.enter { entry := e, tag := b, outcome := .pending, kindSeq := none, detail := none } with
        places := d.places ++ [{ state := .filling, tag := b, bytes := [], overLength := false, busError := false, entry := e }]
        nextEntry := e + 1
        refused := false })
  else (false, s.modDec fun d => { d with refused := true })

/-- R102: a later data byte: the answer and the state after it. -/
def inboxLater (b : Byte) (s : State) : Bool × State :=
  if s.dec.refused then (false, s)
  else match s.dec.filling with
    | none => (false, s)
    | some p =>
      if p.bytes.length < 18 then
        (true, s.modDec fun d => d.updatePlace p.entry fun q => { q with bytes := q.bytes ++ [b] })
      else (false, s.modDec fun d => d.updatePlace p.entry fun q => { q with overLength := true })

/-! ## The turn (R106 to R116) -/

/-- What a turn gives: a decision with its kind and sequence number where the record shows them, or a change to hand over. -/
inductive TurnResult where
  | decided (o : OutcomeCode) (kindSeq : Option (Nat × Nat))
  | handover (c : Change)
deriving DecidableEq, Repr

/-- R114, R115: the value of a fresh code. -/
def judgeValue (credit : Int) (k : CodeKind) (f : CodeFields) : TurnResult :=
  if !k.valueOk f.value then .decided .value (some (f.kind, f.seq))
  else if k = .credit ∧ creditMax < credit + f.value * 10 then .decided .overflow (some (f.kind, f.seq))
  else .handover { kind := k, value := f.value, seq := f.seq }

/-- R111, R112: the kind and the sequence number of a code that has passed its check. -/
def judgeCode (s : State) (f : CodeFields) : TurnResult :=
  match CodeKind.ofDigit f.kind with
  | none =>
    if f.kind = 9 then .decided .accepted (some (f.kind, f.seq)) else .decided .kind (some (f.kind, f.seq))
  | some k =>
    match judgeSeq s.sto.high s.sto.used f.seq with
    | .old => .decided .old (some (f.kind, f.seq))
    | .used => .decided .used (some (f.kind, f.seq))
    | .fresh => judgeValue s.eng.credit k f

/-- R107 to R115: the tests of a turn in their order; the first that fails decides. -/
def judge (s : State) (p : Submission) : TurnResult :=
  match p.digits with
  | none => .decided .malformed none
  | some t =>
    match s.dec.key with
    | none => .decided .check none
    | some k =>
      let f := codeFields (unscramble k t)
      if f.passes k then judgeCode s f else .decided .check none

/-- R89, R116: a change is handed to the Account Store, with a TOKEN request. -/
def handOver (c : Change) (s : State) : State := requestCommit .token (s.modSto fun a => { a with held := some c })

/-- R106: the turn of the oldest READY submission, when no place is ACTIVE. -/
def nextTurn (s : State) : State :=
  if s.dec.active.isSome then s
  else match s.dec.ready with
    | none => s
    | some p =>
      match judge s p with
      | .decided o ks =>
        s.modDec fun d =>
          (d.updateRecord p.entry fun r => { r with outcome := o, kindSeq := ks }).freePlace p.entry
      | .handover c =>
        handOver c (s.modDec fun d => d.updatePlace p.entry fun q => { q with state := .active c })

/-- R106: turns are given until a place is ACTIVE or none is READY; there are two places. -/
def giveTurns (s : State) : State := nextTurn (nextTurn s)

/-- R103: how an INBOX write transaction ended. -/
def endSubmission (byBusError : Bool) (s : State) : State :=
  let s := s.modDec fun d => { d with refused := false }
  match s.dec.filling with
  | none => s
  | some p =>
    giveTurns (s.modDec fun d => d.updatePlace p.entry fun q =>
      { q with state := .ready, busError := q.busError || byBusError })

/-! ## The end of a code's commit (R117, R118, R119) -/

/-- R117, R118: the commit carrying the ACTIVE place's change has succeeded; `left` is the set of latches left ACTIVE. -/
def codeDone (left : BitVec 10) (s : State) : State :=
  match s.dec.active with
  | none => s
  | some (p, c) =>
    let partly := c.kind = .clear ∧ left ≠ 0
    let s := s.modDec fun d => d.updateRecord p.entry fun r => { r with
      outcome := if partly then .partialDone else .accepted
      kindSeq := some (c.kind.digit, c.seq)
      detail := if partly then some left else none }
    let s := raiseEvent .tokenAccepted c.kind.digit s
    giveTurns (s.modDec fun d => d.freePlace p.entry)

/-- R119: the commit carrying the ACTIVE place's change has failed. -/
def codeFailed (s : State) : State :=
  match s.dec.active with
  | none => s
  | some (p, c) =>
    giveTurns (s.modDec fun d =>
      (d.updateRecord p.entry fun r => { r with outcome := .store, kindSeq := some (c.kind.digit, c.seq) }).freePlace p.entry)

/-! ## Outages (R122) -/

/-- The submission has not been decoded: FILLING or READY. -/
def Submission.undecoded (p : Submission) : Bool := p.state.change?.isNone

/-- R122: FILLING and READY places become FREE with outcome DROPPED; later bytes of a dropped transaction are refused. A first byte that
ends after the warning is taken under R101 (DESIGN CHOICE: log entry 32). A submission whose repeated START has come, with that START's
address byte still under way, is FILLING here and is dropped (DESIGN CHOICE: log entry 43). -/
def dropSubmissions (s : State) : State :=
  s.modDec fun d => { d with
    refused := d.refused || d.filling.isSome
    outcomes := d.outcomes.map fun r =>
      if d.places.any fun p => p.undecoded && p.entry == r.entry then { r with outcome := .dropped } else r
    places := d.places.filter fun p => !p.undecoded }

end Sys2Proof.Machine
end

