-- ==== Sys2Proof/Machine/EngineOps.lean ====
section
/-! DEFINITION. The Energy Engine's shared operations (chapter 4): the block's work (R58 to R70, R73), the emergency-credit request
(R72), the application of a committed change (R74, R77), the taking of a record at a cold start (R81), and the counts that the
Tamper Monitor and the Switch Controller make of a block (R139, R141, R154, R155). -/

namespace Sys2Proof.Machine

open Sys2Proof

/-- A 32-bit count saturates here (R69, R70). -/
def max32 : Nat := 4294967295

/-- R65: cumulative import saturates here. -/
def max48 : Nat := 2 ^ 48 - 1

/-! ## Charging (R64 to R70) -/

/-- R65, R66: mWh up to and including the next kWh boundary. -/
def toBoundary (cumulative : Nat) : Nat := 1000000 - cumulative % 1000000

/-- R66: `n` mWh from `cumulative` on cross a kWh boundary; there is none after saturation. -/
def crossesBoundary (cumulative n : Nat) : Bool := toBoundary cumulative ≤ n && cumulative + toBoundary cumulative ≤ max48

/-- R66, R67: the charge of `n` mWh: k at the old rate and the rest at the pending one, or all at the active rate. -/
def chargeOf (e : Engine) (n : Nat) : Nat :=
  match e.pendingRate with
  | some r =>
    if crossesBoundary e.cumulative n then
      toBoundary e.cumulative * e.rate + (n - toBoundary e.cumulative) * r
    else n * e.rate
  | none => n * e.rate

/-- R64 to R66: the whole mWh of a block: F, cumulative import, the rates and the charge remainder before mils are taken. -/
def Engine.addEnergy (e : Engine) (billed : Nat) : Engine :=
  let n := (e.fine + billed) / mWh
  let crossed := crossesBoundary e.cumulative n
  { e with
    fine := (e.fine + billed) % mWh
    cumulative := min (e.cumulative + n) max48
    charge := e.charge + chargeOf e n
    rate := if crossed then e.pendingRate.getD e.rate else e.rate
    pendingRate := if crossed then none else e.pendingRate }

/-- R68 to R70: the whole mils of the charge remainder are taken from C down to the floor, the rest goes to the shortfall, and
spend-since-commit counts them all. -/
def Engine.takeMils (e : Engine) : Engine :=
  let m := e.charge / 1000000
  let spend := min (e.spend + m) max32
  { e with
    charge := e.charge % 1000000
    credit := if e.floor ≤ e.credit - m then e.credit - m else e.floor
    shortfall := if e.floor ≤ e.credit - m then e.shortfall
      else min (e.shortfall + ((m : Int) - (e.credit - e.floor)).toNat) max32
    spend := spend
    spendDue := e.spendDue || (e.spend < 1000 && 1000 ≤ spend) }

/-- R73: C at -A while IN_USE. -/
def Engine.reachesSpent (e : Engine) : Bool := e.ec = .inUse && e.credit = -(e.allow : Int)

/-- R58 stages 6 and 7, in ACCOUNT. -/
def Engine.chargeBlock (e : Engine) (billed : Nat) : Engine :=
  let e := (e.addEnergy billed).takeMils
  if e.reachesSpent then { e with ec := .spent } else e

/-! ## What other blocks make of a block -/

/-- R154, R155: the present run and the absent run after a block report. -/
def countRuns (above met : Bool) (present absent : Nat) : Nat × Nat :=
  if !above then (present, absent)
  else if met then (min (present + 1) 50, 0)
  else (0, min (absent + 1) 50)

/-- R154, R155: the Tamper Monitor counts the block report. -/
def Tamper.countReport (t : Tamper) (f : BlockFigures) : Tamper :=
  let i := countRuns f.above f.imbalance t.imbPresent t.imbAbsent
  let r := countRuns f.above f.negative t.revPresent t.revAbsent
  { t with imbPresent := i.1, imbAbsent := i.2, revPresent := r.1, revAbsent := r.2 }

/-- R141: the Switch Controller counts the overload result while CLOSED and not held back. -/
def Switch.countOverload (w : Switch) (o : Overload) : Switch :=
  if w.relay = .closed && !w.held then
    { w with overRun := if o = .over then min (w.overRun + 1) 250 else 0 }
  else w

/-- R139: the Switch Controller tests the block IL sum in an open period; a run that has reached 50 stays. -/
def Switch.countIl (w : Switch) (present : Bool) : Switch :=
  if w.openPeriod && w.ilRun < 50 then { w with ilRun := if present then w.ilRun + 1 else 0 } else w

/-! ## The block's work (R58) -/

/-- R58 stages 1 to 7 and 10: the Engine's own state. -/
def Engine.blockStages (e : Engine) (f : BlockFigures) : Engine :=
  let e := { e with winCount := e.winCount + 1, winSum := e.winSum + f.billed, sl := 0, sn := 0 }
  if e.account then e.chargeBlock f.billed else e

/-- R58: a completed block's work as one event, with what it hands out in the order of R58. The SPEND request and the change of
live power are the commands SPEND_THRESHOLD and LIVE_POWER_UPDATE, which are due after it, and so is OVERLOAD_TRIP, which comes first
where the credit condition or a limit-changed notice would clear the run that has reached 250 (R141, R147; log entry 8). -/
def blockWork (s : State) : State :=
  let e0 := s.eng
  let f := blockFigures s.win.cal e0.sl e0.sn e0.limit (s.tam.latches.magnet = .active)
  let e1 := e0.blockStages f
  let crossed := e0.account && crossesBoundary e0.cumulative ((e0.fine + f.billed) / mWh)
  let spentNow := e0.ec = .inUse && e1.ec = .spent
  let s := (s.modEng fun _ => e1).modTam fun t => t.countReport f
  let s := s.modSw fun w => w.countOverload f.overload
  let s := evalConditions s
  let s := limitInForce (if s.eng.pendingLimit.isSome then overloadTrip s else s)
  let s := if crossed && e0.pendingRate.isSome then raiseEvent .rateActive 0 s else s
  let s := if spentNow then raiseEvent .ecSpent 0 s else s
  let s := if crossed then requestCommit .boundary s else s
  if spentNow then requestCommit .ec s else s

/-- R70: the SPEND request of a crossing of 1,000 mils. -/
def spendThreshold (s : State) : State :=
  if s.eng.spendDue then requestCommit .spend (s.modEng fun e => { e with spendDue := false }) else s

/-! ## Emergency credit (R72, R74) -/

/-- R72: the request can be taken. -/
def Engine.takesEmergency (e : Engine) (wLow : Nat) : Bool :=
  e.account && e.ec = .available && e.credit < wLow && 1 ≤ e.allow

/-- R72: an emergency-credit request: TAKEN, or REFUSED with no change. -/
def emergencyRequest (s : State) : State :=
  if s.eng.takesEmergency s.win.cal.wLow then
    let s := s.modEng fun e => { e with ec := .inUse }
    evalConditions (requestCommit .ec (raiseEvent .ecTaken 0 s))
  else s

/-- R74: C is at or above A while the loan stands. -/
def Engine.returns (e : Engine) : Bool := e.ec != .available && (e.allow : Int) ≤ e.credit

/-- R74: emergency credit returns to AVAILABLE, and a pending allowance becomes A. -/
def Engine.returnAvailable (e : Engine) : Engine :=
  { e with ec := .available, allow := e.pendingAllow.getD e.allow, pendingAllow := none }

/-- R77: a credit is added to C, at most to C_max. -/
def Engine.addCredit (e : Engine) (centi : Nat) : Engine := { e with credit := min (e.credit + centi * 10) creditMax }

/-- R74: a committed allowance: A at once while AVAILABLE, otherwise the pending allowance. -/
def Engine.setAllowance (e : Engine) (centi : Nat) : Engine :=
  if e.ec = .available then { e with allow := centi * 10 } else { e with pendingAllow := some (centi * 10) }

/-- R77: a committed change is applied to the live state as one event. CLEAR carries nothing for the Engine. -/
def applyChange (c : Change) (s : State) : State :=
  match c.kind with
  | .credit =>
    let s := s.modEng fun e => e.addCredit c.value
    let s := if s.eng.returns then requestCommit .ec (s.modEng Engine.returnAvailable) else s
    evalConditions s
  | .rate =>
    if s.eng.rate = 0 then
      let s := s.modEng fun e => { e with rate := c.value, pendingRate := none }
      reportRateUnset (raiseEvent .rateActive 0 s)
    else s.modEng fun e => { e with pendingRate := some c.value }
  | .limit => s.modEng fun e => { e with pendingLimit := some c.value }
  | .allowance => evalConditions (s.modEng fun e => e.setAllowance c.value)
  | .clear => s

/-! ## Cold start (R81) -/

/-- R81: the record items the Engine takes, entering ACCOUNT. -/
def Engine.takeRecord (e : Engine) (r : Record) : Engine :=
  { e with
    account := true
    credit := r.credit
    shortfall := r.shortfall
    fine := r.fine
    charge := r.charge
    cumulative := r.cumulative
    rate := r.rate
    pendingRate := r.pendingRate
    limit := r.limit
    allow := r.allow
    pendingAllow := r.pendingAllow
    ec := r.ec }

/-- R81: the credit condition, the low-credit flag and the rate-unset condition are evaluated and reported once, whatever their
values. -/
def startUpConditions (s : State) : State :=
  let c := s.eng.creditCondition
  let low := s.eng.lowCredit s.win.cal.wLow
  let s := s.modEng fun e => { e with lowFlag := low, repCredit := c, repLow := low }
  reportRateUnset (setLowcr low (report (.credit c) s))

end Sys2Proof.Machine
end

