-- ==== Sys2Proof/Machine/PathOps.lean ====
section
/-! DEFINITION. The Path Unit's shared operations on host transactions (chapter 1): the end of a transaction (R2, R8, R12), the
cut (R15, R16), address bytes (R4), word-address bytes (R6), data bytes (R7 to R11), foreign bytes (R5), and the restore that ends
every job (R13). -/

namespace Sys2Proof.Machine

open Sys2Proof

/-! ## Ending a transaction -/

/-- The part ends the host's transaction on the memory segment with STOP, if it is still open. -/
def stopSegment (s : State) : State :=
  if s.path.segOpen then emit [.stop] (s.modPath fun p => { p with segOpen := false }) else s

/-- R7, R8: the part ends the host's transaction on the memory segment at its first data byte, while the owner stays HOST (log entry
35). -/
def stopAtData (s : State) : State := (stopSegment s).modPath fun p => { p with stopping := s.path.segOpen }

/-- R18: the STOP that a clock fault owes is issued, with what a job has begun behind it. -/
def owedStop (s : State) : State :=
  if s.path.stopOwed then
    emit (.stop :: s.path.behind) (s.modPath fun p => { p with stopOwed := false, behind := [] })
  else s

/-- R6: a transaction that ends between the word-address bytes leaves the mirror pointer UNKNOWN. -/
def mirrorAtEnd (s : State) : State := s.modPath fun p => { p with mirror := p.endMirror }

/-- R33, R35: the snapshots are discarded when their transaction ends. -/
def dropSnapshots (s : State) : State := s.modWin fun w => { w with liveSnap := none, outcomeSnap := none }

/-- What the end of a transaction, by a STOP, a repeated START, a bus error or a cut, does beside the segment: the Code Decoder is
told of the end of an INBOX write (R8, R103), the mirror pointer is set under R6 and the snapshots are discarded. -/
def endTransaction (byBusError : Bool) (s : State) : State :=
  let s := if s.path.window = some .inbox then endSubmission byBusError s else s
  dropSnapshots ((mirrorAtEnd s).modPath fun p => { p with window := none, stopping := false })

/-- R2, R12: the owner leaves HOST: the host pointer takes the mirror pointer after a memory-class transaction, the hold-limit timer
stops, and the upstream segment is in the phase given. -/
def releaseHost (phase : UpPhase) (s : State) : State :=
  s.modPath fun p => { p with
    owner := .free
    phase := phase
    hostPtr := if p.memClass then p.mirror else p.hostPtr
    memClass := false
    cutPending := false
    holdTime := 0 }

/-- R2, R17: the end of a host transaction, with STOP on the memory segment. -/
def endHost (byBusError : Bool) (phase : UpPhase) (s : State) : State :=
  releaseHost phase (stopSegment (endTransaction byBusError s))

/-- R16: the byte that the part clocks and discards before the STOP of a cut read. After a repeated START that the part itself refused, no
byte is clocked, whatever the last read byte's acknowledge was (DESIGN CHOICE: log entry 51). -/
def cutRead (s : State) : State :=
  match s.path.phase with
  | .reading .unread | .reading .acked =>
    emit [.get false] (s.modPath fun p => { p with mirror := p.mirror.map fun a => advanceRead a 1 })
  | .foreignRead .unread | .foreignRead .acked => emit [.get false] s
  | _ => s

/-- R16: a cut. Between the START that made a bus error and its address byte nothing is open on the memory segment, and a cut puts nothing
there (DESIGN CHOICE: log entry 37). -/
def cut (s : State) : State := endHost false .cut (cutRead s)

/-- R15, R20: a cut is asked for: by the warning, or by the hold limit while a job waits. -/
def Path.cutAsked (p : Path) : Bool := p.owner = .host && (p.cutPending || (ms 50 ≤ p.holdTime && !p.jobs.isEmpty))

/-- R15: the cut that is asked for is taken where the upstream segment stands between bytes. It is asked for there: a RESTORE that alone
waited when the timer reached its limit, and that the byte in progress has withdrawn, cuts nothing (DESIGN CHOICE: log entry 42). -/
def takeCut (s : State) : State := if s.path.cutAsked && !s.pins.midByte then cut s else s

/-- A byte boundary on the upstream segment. -/
def byteEnd (s : State) : State := s.modPins fun p => { p with midByte := false, carried := none }

/-! ## Address bytes (R4) -/

/-- R2: a START taken while the owner is FREE makes it HOST, with a new hold-limit timer. -/
def takeSegment (s : State) : State :=
  if s.path.owner = .free then
    s.modPath fun p => { p with owner := .host, holdTime := 0, memClass := false, segOpen := false, stopping := false }
  else s

/-- R2, R4: the transaction of an address byte that is on its way on the memory segment: its START has made the owner HOST. -/
def openAddress (select : BitVec 7) (s : State) : State :=
  (takeSegment s).modPath fun p => { p with memClass := p.memClass || s.memoryClass select }

/-- R4 cases 1 to 3: the address byte is answered NACK. -/
def refuseAddress (memClass : Bool) (s : State) : State :=
  answer false (s.modPath fun p => { p with phase := .refused, memClass := memClass })

/-- The phase after an address byte that the memory, or a foreign device, has answered. -/
def phaseAfterAddress (memClass : Bool) (dir : Dir) (ack : Bool) : UpPhase :=
  match memClass, dir, ack with
  | true, .write, true => .addressed
  | true, .write, false => .nacked
  | true, .read, true => .reading .unread
  | true, .read, false => .nacked
  | false, .write, _ => .foreignWrite
  | false, .read, true => .foreignRead .unread
  | false, .read, false => .foreignRead .nacked

/-- R4 case 4: the address byte is carried, after a repeated START if the memory-segment transaction is still open. A STOP that is
still owed there goes before it, since the memory's answer has come (log entry 35). -/
def carryAddress (memClass : Bool) (select : BitVec 7) (dir : Dir) (ack : Bool) (s : State) : State :=
  let t := emit [.address s.path.segOpen select dir] (owedStop s)
  answer ack (t.modPath fun p => { p with
    segOpen := true
    memClass := p.memClass || memClass
    phase := phaseAfterAddress memClass dir ack })

/-- R4: an address byte. A repeated START has ended the transaction before it. The address byte of a START that made a bus error is taken
here after a cut too, and is no byte of the cut state (DESIGN CHOICE: log entry 37). -/
def addressByteOp (select : BitVec 7) (dir : Dir) (ack : Bool) (s : State) : State :=
  let s := if s.path.owner = .host then endTransaction false s else s
  if s.path.isolated || s.path.owner = .own then refuseAddress s.path.memClass s
  else
    let s := takeSegment s
    if s.memoryClass select && dir = .read && s.path.mirror.isNone then refuseAddress true s
    else carryAddress (s.memoryClass select) select dir ack s

/-! ## Foreign bytes (R5) -/

/-- R16, R180: a byte of a foreign transaction that the part no longer carries meets released lines, which the host sees as NACK to a
written byte and as 0xFF for a read one (log entry 36). -/
def releasedForeign (s : State) : State := give 0xFF (answer false s)

/-- R5: a byte of a foreign transaction, with the receiver's answer: the device's for a written byte, the host's for a read one. -/
def foreignByteOp (byte : Byte) (ack : Bool) (s : State) : State :=
  match s.path.phase with
  | .foreignWrite => answer ack (emit [.put byte] s)
  | .foreignRead _ =>
    (give byte (emit [.get ack] s)).modPath fun p => { p with phase := .foreignRead (if ack then .acked else .nacked) }
  | _ => releasedForeign s

/-! ## Writes (R6 to R9) -/

/-- R6: the memory has acknowledged both word-address bytes. A waiting RESTORE is withdrawn (R13). -/
def setWordAddress (a : Addr) (s : State) : State :=
  dropJob .restore (s.modPath fun p => { p with
    mirror := some a
    wordAddr := a
    window := some (s.win.windowOf (pageOf a))
    phase := .pointerSet })

/-- R6: a word-address byte. After a NACK to the first one, an ACK to the second leaves the pointer UNKNOWN and fixes no window (DESIGN
CHOICE: log entry 27). -/
def wordAddressByteOp (byte : Byte) (ack : Bool) (s : State) : State :=
  match s.path.phase with
  | .addressed =>
    (answer ack (emit [.put byte] s)).modPath fun p => { p with
      phase := .wordHigh byte ack
      mirror := if ack then p.mirror else none }
  | .wordHigh hi hiAck =>
    let t := answer ack (emit [.put byte] s)
    if hiAck && ack then setWordAddress (hi ++ byte) t
    else t.modPath fun p => { p with phase := .nacked, mirror := none }
  | _ => releasedByte .write s

/-- R9: a data byte for an OPEN page is forwarded. -/
def openDataByte (byte : Byte) (ack : Bool) (s : State) : State :=
  (answer ack (emit [.put byte] s)).modPath fun p => { p with
    phase := .writing
    mirror := if ack then p.mirror.map fun a => advanceInPage a 1 else none }

/-- R8: a data byte for the INBOX page; the first one ends the memory-segment transaction. -/
def inboxDataByte (first : Bool) (byte : Byte) (s : State) : State :=
  let r := if first then inboxFirst (offsetOf s.path.wordAddr) byte (stopAtData s) else inboxLater byte s
  answer r.1 (r.2.modPath fun p => { p with phase := .writing })

/-- R7: a data byte for a guarded page: refused, the first one with STOP and a PATH finding, also in a transaction that goes on after an
isolation cause has been set (DEDUCED: log entry 46). -/
def guardedDataByte (first : Bool) (s : State) : State :=
  let s := if first then finding .path (stopAtData s) else s
  answer false (s.modPath fun p => { p with phase := .writing })

/-- R7: a data byte by the window fixed for the write. -/
def windowDataByte (first : Bool) (byte : Byte) (ack : Bool) (s : State) : State :=
  match s.path.window with
  | some .openPage => openDataByte byte ack s
  | some .inbox => inboxDataByte first byte s
  | some .page0 | some .page1 | some .sealedPage | some .account | some .log | some .live => guardedDataByte first s
  | none => releasedByte .write s

/-- R7: a data byte of a memory-class write. -/
def hostWriteDataByteOp (byte : Byte) (ack : Bool) (s : State) : State :=
  match s.path.phase with
  | .pointerSet => windowDataByte true byte ack s
  | .writing => windowDataByte false byte ack s
  | _ => releasedByte .write s

/-! ## Reads (R10, R11, R33, R35) -/

/-- R33, R36: the byte of the live view at an offset, from the transaction's snapshot, taken here at its first LIVE byte. -/
def giveLive (offset : Nat) (s : State) : State :=
  let snap := s.win.liveSnap.getD (liveView s)
  give (snap.getD offset 0) (s.modWin fun w => { w with liveSnap := some snap })

/-- R35, R36: the byte of the outcome view at an offset, likewise. -/
def giveOutcome (offset : Nat) (s : State) : State :=
  let snap := s.win.outcomeSnap.getD (outcomeView s)
  give (snap.getD offset 0) (s.modWin fun w => { w with outcomeSnap := some snap })

/-- R11: the byte passed to the host for the memory's byte at an address. -/
def giveRead (a : Addr) (byte : Byte) (s : State) : State :=
  match s.win.windowOf (pageOf a) with
  | .live => giveLive (offsetOf a) s
  | .inbox => giveOutcome (offsetOf a) s
  | .openPage | .page0 | .page1 | .sealedPage | .account | .log => give byte s

/-- R10: a byte is read from the memory and passed on, and the host's answer to it is carried. -/
def readDataByte (byte : Byte) (ack : Bool) (s : State) : State :=
  let t := emit [.get ack] s
  let t := match s.path.mirror with
    | some a => giveRead a byte t
    | none => give byte t
  t.modPath fun p => { p with
    phase := .reading (if ack then .acked else .nacked)
    mirror := p.mirror.map fun a => advanceRead a 1 }

/-- R10: a data byte of a read transaction. After the host's NACK the memory has released its line (log entry 13). -/
def hostReadDataByteOp (byte : Byte) (ack : Bool) (s : State) : State :=
  match s.path.phase with
  | .reading .unread | .reading .acked => readDataByte byte ack s
  | _ => releasedByte .read s

/-! ## Ends of host transactions (R2, R16, R17) -/

/-- R2, R16: the host's STOP. -/
def hostStopOp (s : State) : State :=
  if s.path.owner = .host then endHost false .idle s else s.modPath fun p => { p with phase := .idle }

/-- R17: a START that made a bus error begins a new host transaction, under R2 and R4. It takes the segment that the end of the old
one has freed before a waiting job does (DESIGN CHOICE: log entry 29). -/
def startAfterBusError (s : State) : State :=
  let s := if s.path.isolated then s else takeSegment s
  s.modPath fun p => { p with phase := .started }

/-- R17: a START or STOP in mid-byte. In the address byte of a repeated START, that START has ended the write before it (R6, R8, R103),
and the Code Decoder was told so. -/
def busErrorOp (e : MidByteEdge) (s : State) : State :=
  let s := if s.path.owner = .host then endHost (!e.inAddress) .idle s else s.modPath fun p => { p with phase := .idle }
  if e.byStart then startAfterBusError s else s

/-- R15: the hold-limit timer has reached 50 ms; the cut follows where a job waits (`takeCut`). -/
def holdLimitOp (s : State) : State :=
  if s.path.owner = .host then s.modPath fun p => { p with holdTime := ms 50 } else s

/-- R16: a byte in the cut state. -/
def cutByteOp (dir : Dir) (s : State) : State := if s.path.phase = .cut then releasedByte dir s else s

/-- R18: the memory-segment transaction of the host is abandoned; the STOP is owed, and the part carries no byte. The mirror pointer is
UNKNOWN after a foreign transaction too (DESIGN CHOICE: log entry 28). -/
def hostClockFault (s : State) : State :=
  let s := endTransaction false (s.modPins fun p => { p with carried := none })
  releaseHost .cut (s.modPath fun p => { p with segOpen := false, mirror := none, stopOwed := true, clockLowTime := 0 })

/-! ## Jobs -/

/-- The job in progress goes on to a stage, with its transaction. -/
def jobStage (stage : JobStage) (act : OwnAct) (s : State) : State :=
  issue act (s.modPath fun p => { p with run := p.run.map fun r => { r with stage := stage }, pollTime := 0 })

/-- The mirror pointer after a transaction of a job (R14). -/
def setMirror (m : Option Addr) (s : State) : State := s.modPath fun p => { p with mirror := m }

/-- R13: the address that a pointer restore writes. -/
def Path.restoreAddr (p : Path) : Addr := p.hostPtr.getD 0

/-- R13: a job's pointer restore begins. -/
def beginRestore (s : State) : State := jobStage .restore (.write s.path.restoreAddr []) s

end Sys2Proof.Machine
end

