-- ==== Sys2Proof/Machine/StoreOps.lean ====
section
/-! DEFINITION. The Account Store's shared operations (chapter 5): the record of the live state and the effect of a carried change on
it (R83, R89), the snapshot (R88), the success, failure and interruption of a commit (R92 to R95), the end of the generations
(R85), the selection of a slot (R96) and the hold-exit check (R99). -/

namespace Sys2Proof.Machine

open Sys2Proof

/-! ## The record of the live state (R83, R88) -/

/-- R85: the generation of the next commit. -/
def Store.nextGeneration (a : Store) : Nat := (a.verified.map generationOf).getD 0 + 1

/-- R85: the target slot. -/
def Store.target (a : Store) : Slot :=
  match a.slot with
  | some .a => .b
  | some .b => .a
  | none => .a

/-- R88: the record of the owners' state at this moment, with P_limit taken as the pending limit when one is present. -/
def State.liveRecord (s : State) : Record where
  generation := s.sto.nextGeneration
  credit := s.eng.credit
  shortfall := s.eng.shortfall
  fine := s.eng.fine
  cumulative := s.eng.cumulative
  rate := s.eng.rate
  relayClosed := s.sw.relay.towardClosed
  armed := s.sw.armed
  retry := s.sw.retry
  pendingRate := s.eng.pendingRate
  ec := s.eng.ec
  pendingAllow := s.eng.pendingAllow
  limit := s.eng.pendingLimit.getD s.eng.limit
  allow := s.eng.allow
  high := s.sto.high
  reasons := s.sw.reasons
  head := s.log.head
  used := s.sto.used
  latches := s.tam.latches
  charge := s.eng.charge
  appendNo := s.log.appendNo

/-- R89: the latches of the snapshot with the named HELD ones CLEAR. -/
def Latches.clearNamed (mask : BitVec 10) (l : Latches) : Latches :=
  tamperKinds.foldl (fun m k => if named mask k && m.get k = .held then m.set k .clear else m) l

/-- R89, R74: emergency credit in the snapshot returns to AVAILABLE when C is at or above A. -/
def Record.returnAvailable (r : Record) : Record :=
  if r.ec != .available && (r.allow : Int) ≤ r.credit then
    { r with ec := .available, allow := r.pendingAllow.getD r.allow, pendingAllow := none }
  else r

/-- R89: the effect of a change on the snapshot, without the code history. -/
def Record.applyKind (c : Change) (r : Record) : Record :=
  match c.kind with
  | .credit => Record.returnAvailable { r with credit := min (r.credit + c.value * 10) creditMax }
  | .rate =>
    if r.rate = 0 then { r with rate := c.value, pendingRate := none } else { r with pendingRate := some c.value }
  | .limit => { r with limit := c.value }
  | .allowance =>
    if r.ec = .available then { r with allow := c.value * 10 } else { r with pendingAllow := some (c.value * 10) }
  | .clear => { r with latches := r.latches.clearNamed (BitVec.ofNat 10 c.value) }

/-- R89: the effect of a change on the snapshot, with its sequence number in the code history. -/
def Record.applyChange (c : Change) (r : Record) : Record :=
  let h := joinSeq r.high r.used c.seq
  { r.applyKind c with high := h.1, used := h.2 }

/-! ## The commit (R88, R92 to R95) -/

/-- R88: the snapshot, with a held change applied to it. -/
def State.snapshotRecord (s : State) : Record :=
  match s.sto.held with
  | some c => s.liveRecord.applyChange c
  | none => s.liveRecord

/-- R88, R70: the snapshot is taken, and the waiting request, with what was merged into it, is the one it stands for (R87): the commit
is IN_FLIGHT at attempt 1, a held change is carried, and spend-since-commit is 0. -/
def takeSnapshot (s : State) : State :=
  (s.modSto fun a => { a with
    stage := .inFlight
    attempt := 1
    snapshot := some s.snapshotRecord
    inTrigger := a.waiting
    waiting := none
    carried := a.held
    held := none }).modEng fun e => { e with spend := 0, spendDue := false }

/-- R162: a condition that met the grant has its LATCH request wait behind the commit that is granted, for a further one (log entry
34). -/
def furtherCommit (s : State) : State :=
  if s.sto.further then requestCommit .latch (s.modSto fun a => { a with further := false }) else s

/-- The address of a slot's record. -/
def State.slotAddress (s : State) (k : Slot) : Addr := pageAddr (s.win.slotPage k)

/-- The 64 bytes that the commit in flight writes. -/
def Store.snapshotBytes (a : Store) : List Byte := (a.snapshot.map Record.encode).getD []

/-- R92 steps 1 and 2: the snapshot becomes the verified copy, its slot the verified slot, and its code history that of the
store. -/
def Store.adopt (a : Store) : Store :=
  match a.snapshot with
  | none => a
  | some r => { a with verified := some r.encode, slot := some a.target, high := r.high, used := r.used }

/-- R92 step 3, R94 step 2: the account state changes, and the Switch Controller is told. -/
def setAccountState (v : AccountState) (s : State) : State := report (.account v) (s.modSto fun a => { a with state := v })

/-- R92 steps 4 and 5: a carried change is applied to the live state, and the Code Decoder is told. -/
def applyCarried (s : State) : State :=
  match s.sto.carried with
  | none => s
  | some c =>
    match c.kind with
    | .clear =>
      let mask := BitVec.ofNat 10 c.value
      let s := applyClear mask s
      codeDone (leftActive mask s.tam.latches) s
    | .credit | .rate | .limit | .allowance => codeDone 0 (applyChange c s)

/-- R92 step 6, R94 step 4: the carried change becomes absent and the snapshot is dropped. -/
def dropSnapshot (s : State) : State := s.modSto fun a => { a with carried := none, snapshot := none, attempt := 1 }

/-- R92: an attempt has succeeded. -/
def commitSuccess (s : State) : State :=
  let old := s.sto.state
  let s := s.modSto Store.adopt
  let s := if old = .void ∨ old = .storeFault then setAccountState .loaded s else s
  dropSnapshot (applyCarried s)

/-- R94: the commit with trigger `t` has failed. -/
def commitFail (t : Trigger) (s : State) : State :=
  let s := if s.sto.state = .loaded ∨ s.sto.state = .void then
      raiseEvent .commitFault t.rank (setAccountState .storeFault s) else s
  if s.sto.carried.isSome then codeFailed (dropSnapshot s) else dropSnapshot s

/-- R85: at the end of the generations a waiting request is ended when the commit's restore has ended, and its job withdrawn. -/
def endWaiting (s : State) : State :=
  match s.sto.waiting with
  | none => s
  | some t => dropJob .urgentCommit (dropJob .commit (s.modSto fun a =>
      { a with waiting := none, stage := .idle, ended := a.ended ++ [t] }))

/-- R92, R94: the commit's restore has ended: the stage is QUEUED if a request waits, and IDLE otherwise. -/
def commitEnded (s : State) : State :=
  let s := s.modSto fun a => { a with stage := if a.waiting.isSome then .queued else .idle, inTrigger := none }
  if s.sto.generationEnded then endWaiting s else s

/-- R95: hold entry has interrupted the commit: its change returns to held, and its trigger merges into the waiting request. -/
def interruptCommit (s : State) : State :=
  let t := s.sto.inTrigger
  let s := s.modSto fun a => { a with
    held := if a.carried.isSome then a.carried else a.held
    carried := none
    snapshot := none
    attempt := 1
    inTrigger := none
    stage := .queued }
  match t with
  | some t => requestCommit t s
  | none => s

/-- R85: a request ended at the end of the generations fails as a second failure, its trigger the in-flight one and a held change
the carried one; an ended urgent commit ends what hold entry waits for (R176). -/
def endedRequest (t : Trigger) (s : State) : State :=
  let s := s.modSto fun a => { a with carried := a.held, held := none }
  let s := s.modEng fun e => { e with spend := 0, spendDue := false }
  let s := if t = .powerFail then s.modSup fun p => { p with holdDue := p.holdDue || p.phase = .warned } else s
  commitFail t s

/-- R85: the ended requests are concluded, one after the other, with those that their own failure makes; at most `fuel` of them. -/
def concludeEnded : Nat → State → State
  | 0, s => s
  | fuel + 1, s =>
    match s.sto.ended with
    | [] => s
    | t :: rest => concludeEnded fuel (endedRequest t (s.modSto fun a => { a with ended := rest }))

/-! ## Start-up and hold exit (R96, R99) -/

/-- R96: a slot's record, none when its read failed or it is invalid. -/
def slotRecord (read : Option (List Byte)) : Option (List Byte × Record) :=
  read.bind fun bs => (readRecord bs).map fun r => (bs, r)

/-- R96: the slot selected, with its bytes and its record. -/
def selectSlot (a b : Option (List Byte × Record)) : Option (Slot × List Byte × Record) :=
  match a, b with
  | some (ba, ra), some (bb, rb) => if ra.generation < rb.generation then some (.b, bb, rb) else some (.a, ba, ra)
  | some (ba, ra), none => some (.a, ba, ra)
  | none, some (bb, rb) => some (.b, bb, rb)
  | none, none => none

/-- R96, R97: the store takes the selected record, or the rebuilt one. -/
def Store.load (a : Store) (choice : Option (Slot × List Byte × Record)) : Store :=
  match choice with
  | some (slot, bs, r) => { a with state := .loaded, verified := some bs, slot := some slot, high := r.high, used := r.used }
  | none => { a with state := .void, verified := some voidRecord.encode, slot := none, high := 0, used := 0 }

/-- R99: the verified slot has been read at hold exit. -/
def holdExitCompare (read : Option (List Byte)) (s : State) : State :=
  if read.isSome && read = s.sto.verified then s else requestCommit .holdExit (finding .memory s)

end Sys2Proof.Machine
end

