-- ==== Sys2Proof/Machine/LogOps.lean ====
section
/-! DEFINITION. The Log Writer's shared operations (chapter 9): the transactions of an append (R168, R170), its success and failure
(R167, R169, R170), the retry after a commit (R169), and the recovery of the head (R172). -/

namespace Sys2Proof.Machine

open Sys2Proof

/-! ## Appends (R167 to R170) -/

/-- R168: the address of the head slot. -/
def EventLog.headAddr (l : EventLog) : Addr := (l.ring.map fun r => slotAddr r l.head).getD 0

/-- R170 step 1: the address and the bytes of the body. -/
def EventLog.bodyWrite (l : EventLog) : Addr × List Byte :=
  (l.headAddr + 4, (l.queue.head?.map EventRec.body).getD [])

/-- R170 step 2: the address and the bytes of the number. -/
def EventLog.numberWrite (l : EventLog) : Addr × List Byte :=
  (l.headAddr, (l.queue.head?.map EventRec.numberBytes).getD [])

/-- R169: a LOG APPEND job is asked for, and the stage is QUEUED. -/
def askAppend (s : State) : State := addJob .logAppend (s.modLog fun l => { l with stage := .queued })

/-- R168: the record leaves the queue, and the head and the append number move on. -/
def EventLog.advance (l : EventLog) : EventLog :=
  { l with
    queue := l.queue.tail
    head := (l.head + 1) % ((l.ring.map Ring.capacity).getD 1)
    appendNo := l.appendNo + 1 }

/-- R167: an EVENTS_LOST record takes the place that has fallen free, after losses. -/
def noteLost (s : State) : State :=
  if s.log.lost = 0 then s
  else
    let e := fun l : EventLog => eventRec .eventsLost (min l.lost 255) l.nextNo s
    s.modLog fun l => { l with queue := l.queue ++ [e l], nextNo := l.nextNo + 1, lost := 0 }

/-- R169, R170: the append has succeeded; a queue that still holds records asks for a new job. -/
def appendSuccess (s : State) : State :=
  let s := noteLost (s.modLog EventLog.advance)
  if s.log.queue.isEmpty then s.modLog fun l => { l with stage := .idle } else askAppend s

/-- R178 steps 5 and 6: the drain of hold exit ends, isolation with it, and the phase is RUNNING. -/
def endDrain (s : State) : State :=
  if s.sup.step = .exitDrain then
    (s.modPath fun p => { p with causePower := false }).modSup fun p => { p with phase := .running, step := .noStep }
  else s

/-- R169: the Supply Monitor is told that the queue has become empty. -/
def appendDone (s : State) : State :=
  let s := appendSuccess s
  if s.log.queue.isEmpty then endDrain s else s

/-- R169, R170: the append has failed; the Supply Monitor is told. -/
def appendFail (s : State) : State := endDrain (s.modLog fun l => { l with stage := .backoff })

/-- R169: a commit has ended with its restore; a backed-off Log Writer asks again if records wait. -/
def retryAppend (s : State) : State :=
  if s.log.stage = .backoff && !s.log.queue.isEmpty then askAppend s else s

/-! ## Recovery (R172) -/

/-- The held records take their numbers in order. -/
def numberRecords : BitVec 32 → List EventRec → List EventRec
  | _, [] => []
  | n, e :: es => { e with number := n } :: numberRecords (n + 1) es

/-- R172: recovery ends with `j` matches. -/
def EventLog.recovered (l : EventLog) (j : Nat) : EventLog :=
  let number := l.appendNo + BitVec.ofNat 32 j
  { l with
    head := (l.head + j) % ((l.ring.map Ring.capacity).getD 1)
    appendNo := number
    nextNo := number + BitVec.ofNat 32 l.queue.length
    queue := numberRecords number l.queue
    recovering := false }

/-- R172: recovery stops after `j` matches, and held records ask for a job. -/
def endRecovery (j : Nat) (s : State) : State :=
  let s := s.modLog fun l => l.recovered j
  if s.log.queue.isEmpty then s else askAppend s

/-- R172: the slot at step `j` of recovery, with the number expected in it. -/
def EventLog.recoverySlot (l : EventLog) (j : Nat) : Addr :=
  (l.ring.map fun r => slotAddr r ((l.head + j) % r.capacity)).getD 0

/-- R172: the slot read at step `j` is a match: its number follows and its kind is defined. -/
def EventLog.isMatch (l : EventLog) (j : Nat) (bs : List Byte) : Bool :=
  field bs 0 4 = (l.appendNo + BitVec.ofNat 32 j).toNat && 1 ≤ field bs 4 1 && field bs 4 1 ≤ 14

/-- R172: the Log Writer takes the front of the ring from the record. -/
def EventLog.takeFront (l : EventLog) (r : Record) : EventLog :=
  { l with head := r.head % ((l.ring.map Ring.capacity).getD 1), appendNo := r.appendNo }

/-- R172, R166: while UNCONFIGURED the held records are discarded, the count returns to 0, and later events are discarded. -/
def EventLog.withoutRing (l : EventLog) : EventLog := { l with queue := [], lost := 0, recovering := false }

end Sys2Proof.Machine
end

