-- ==== Sys2Proof/Config.lean ====
section
/-! DEFINITION. The values the manual leaves open, as constants with no body: nothing can be proved of their values, so what is
proved of the machine holds whatever they are. Each is applied to the counter `State.free`, which advances at each use. -/

namespace Sys2Proof

/-- DESIGN CHOICE (log entry 12). The reason number in the SUPPLY_OPENED event of an opening for which R138 asks for the
opening reason while its operation has none on record: three bits. -/
opaque Config.unrecordedReason : Nat → BitVec 3

/-- DESIGN CHOICE (log entry 12). The unsynchronised mark in the settle event of a relay check that confirms an operation abandoned at
hold entry: the operation's record has gone with it (R145, R146). -/
opaque Config.unrecordedMark : Nat → Bool

/-- DESIGN CHOICE (log entry 11). Which of several events that time has made due is taken next, counted from the first of them: the
manual lets either of two such events be taken first. -/
opaque Config.tiePlace : Nat → Nat

end Sys2Proof
end

