-- ==== Sys2Proof/Machine/SamplingOps.lean ====
section
/-! DEFINITION. The Sampling Unit's shared operations (chapter 3): the frame (R42, R43, R45, R47, R57), the urgent capture (R46), the
end of a block (R44, R51), monitor reports (R48, R140, R153), calibration orders (R41), the zero-crossing filter (R52) and the
events that a block or frame has made due (log entry 8). -/

namespace Sys2Proof.Machine

open Sys2Proof

/-! ## Frames (R42, R43, R45, R47, R57) -/

/-- R45: a rotation sample goes to its monitor, or into the block maximum. -/
def Sampling.rotationSample (m : Sampling) (c : Calibration) (v : Int) : Sampling :=
  let m := match m.rot with
    | .hall => { m with hall := m.hall.count (Monitor.lengths .hall) (hallToward c v) }
    | .temp => { m with temp := m.temp.count (Monitor.lengths .temp) (tempToward c v) }
    | .loadv => { m with blockMax := max m.blockMax v.natAbs, blockHas := true }
  { m with rot := Monitor.next m.rot }

/-- R47: a capture slot: its LOADV magnitude and its iL squared. -/
def Sampling.captureSlot (m : Sampling) (loadv iL : Int) : Sampling :=
  { m with
    capture := .running
    capCount := m.capCount + 1
    capMax := max m.capMax loadv.natAbs
    capSum := m.capSum + (iL * iL).natAbs }

/-- R45, R46: the auxiliary slot of a frame: the capture's, which a WAITING capture begins here, or the rotation's. -/
def Sampling.auxSlot (m : Sampling) (c : Calibration) (aux : BitVec 16) (iL : Int) : Sampling :=
  if m.capture = .idle then m.rotationSample c (sample aux (c.auxOffset m.rot))
  else m.captureSlot (sample aux c.offLoadv) iL

/-- R42: the frame advances the position; after position 63 the block ends (R44). -/
def Sampling.advance (m : Sampling) (iL : Int) : Sampling :=
  { m with
    ilSum := m.ilSum + (iL * iL).natAbs
    framePos := if m.framePos = 63 then 0 else m.framePos + 1
    blockDue := m.framePos = 63 }

/-- R42, R57: a complete frame. -/
def frameWork (v iL iN aux : BitVec 16) (s : State) : State :=
  let c := s.win.cal
  let v := sample v c.offV
  let iL := sample iL c.offIL
  let iN := sample iN c.offIN
  (s.modEng fun e => { e with sl := e.sl + v * iL, sn := e.sn + v * iN }).modSmp fun m =>
    (m.auxSlot c aux iL).advance iL

/-! ## Urgent capture (R46) -/

/-- R46: an urgent capture request is accepted: in IDLE, and not in HOLD. -/
def captureAccepted (s : State) : Bool := s.smp.capture = .idle && s.sup.phase != .held

/-- R46: an accepted capture is WAITING with no slot taken. -/
def startCapture (s : State) : State :=
  s.modSmp fun m => { m with capture := .waiting, capCount := 0, capMax := 0, capSum := 0 }

/-- The capture returns to IDLE. -/
def endCapture (s : State) : State := s.modSmp fun m => { m with capture := .idle, capCount := 0 }

/-! ## Reports of the monitors (R48) -/

/-- R140: what a LOADV report means to the Switch Controller. -/
def loadvReport (active : Bool) (s : State) : State :=
  if !s.sw.openPeriod then s
  else if active then (if s.sw.relayFound then s else bypassPresent s)
  else bypassAbsent s

/-- R48, R125, R140, R153: a monitor reports its new state. -/
def monitorReport (k : Monitor) (active : Bool) (s : State) : State :=
  match k with
  | .hall => if active then conditionPresent .magnet s else conditionAbsent .magnet s
  | .temp => report (.temp active) s
  | .loadv => loadvReport active s

/-- R48: a run has reached its length, and the monitor changes state and reports it. -/
def monitorChange (k : Monitor) (s : State) : State :=
  if (s.smp.monitor k).due (Monitor.lengths k) then
    let m := (s.smp.monitor k).change
    monitorReport k m.active (s.modSmp fun x => x.setMonitor k m)
  else s

/-! ## The end of a block (R44, R51) -/

/-- R51: the LOADV monitor's result of the block. -/
def Sampling.judgeLoadv (m : Sampling) (c : Calibration) : Sampling :=
  if m.blockHas then { m with loadv := m.loadv.count (Monitor.lengths .loadv) (loadvToward c m.blockMax) } else m

/-- R37: the starting values of a block. -/
def Sampling.newBlock (m : Sampling) : Sampling :=
  { m with framePos := 0, blockDue := false, blockMax := 0, blockHas := false, ilSum := 0 }

/-- R44: the block ends. -/
def blockEnd (s : State) : State :=
  if s.smp.blockDue then
    let present := ilPresent s.win.cal s.smp.ilSum
    let s := (blockWork s).modSw fun w => w.countIl present
    s.modSmp fun m => (m.judgeLoadv s.win.cal).newBlock
  else s

/-- R40, R54: the block in progress is discarded. -/
def dropBlock (s : State) : State := discardBlock (s.modSmp Sampling.newBlock)

/-! ## Calibration (R41) -/

/-- R41: calibration is ordered. -/
def orderCalibration (s : State) : State :=
  s.modSmp fun m =>
    if m.conv = .uncalibrated then
      if m.loop = .locked then { m with conv := .calibrating, calTime := 0, calOrdered := false }
      else { m with calOrdered := true }
    else m

/-- R41: an order kept from before begins at lock. -/
def Sampling.beginOrdered (m : Sampling) : Sampling :=
  if m.calOrdered && m.conv = .uncalibrated then { m with conv := .calibrating, calTime := 0, calOrdered := false } else m

/-- R41: calibration is complete. -/
def Sampling.calibrated (m : Sampling) (measured : BitVec 16) : Sampling :=
  { m with conv := .calibrated, correction := measured, calTime := 0, framePos := 0 }

/-- R53: the filter returns to UNSETTLED. -/
def Sampling.zcReset (m : Sampling) : Sampling := { m with zc := .unsettled, zcCount := 0 }

/-- R40, R41: the loop loses lock; calibration in progress is abandoned with its order kept. -/
def Sampling.loseLock (m : Sampling) : Sampling :=
  let m := { m.zcReset with loop := .locking }
  if m.conv = .calibrating then { m with conv := .uncalibrated, calOrdered := true, calTime := 0 } else m

end Sys2Proof.Machine
end

