-- ==== Sys2Proof/Machine/SwitchOps.lean ====
section
/-! DEFINITION. The Switch Controller's shared operations (chapter 7): the attempt and its steps (R133 to R135), the judgement of a
capture (R136), the settle (R137, R138) with its evaluation (R129), the relay check (R145), the overload trip and its delays
(R141, R142), the open-relay watch (R139), the button press (R131), and the taking of the record's fields (R144). -/

namespace Sys2Proof.Machine

open Sys2Proof

/-! ## Steps of an attempt (R133, R134) -/

/-- The operation in flight goes on to a step. -/
def opStep (step : OpStep) (s : State) : State := s.modSw fun w => { w with op := w.op.map fun o => { o with step := step } }

/-- R133: the wait ends, and the zero-cross delay begins. -/
def beginDelay (s : State) : State := opStep (.delay (halfMs s.win.cal.zcDelay)) s

/-- R133: a rising crossing event ends a wait and passes otherwise. -/
def crossingEvent (s : State) : State :=
  match s.sw.op with
  | some o =>
    match o.step with
    | .crossingWait _ => beginDelay s
    | .delay _ | .pulse _ | .settle _ | .capture | .retry => s
  | none => s

/-- R133: the wait ends without an event: the attempt goes on unsynchronised. -/
def crossingTimeout (s : State) : State :=
  match s.sw.op with
  | some o =>
    match o.step with
    | .crossingWait _ => beginDelay (s.modSw fun w => { w with op := some { o with unsync := true } })
    | .delay _ | .pulse _ | .settle _ | .capture | .retry => s
  | none => s

/-- R134: a closing that finds the set not empty at its pulse becomes an opening. It is the operation in flight, and R132's holdback does
not keep it from becoming one in WARNED (R146; DEDUCED: log entry 49). -/
def convertClosing (s : State) : State :=
  s.modSw fun w => { w with
    relay := .opening
    op := some { attempt := 1, step := .crossingWait 0, unsync := false, reason := w.reasons.first }
    overRun := 0 }

/-- R134: the zero-cross delay ends: the pulse begins, or the closing is converted, also where the set had emptied with LIMIT before the
reason entered (R147; DEDUCED: log entry 44). -/
def beginPulse (s : State) : State :=
  if s.sw.relay = .closing && !s.sw.reasons.isEmpty then convertClosing s else opStep (.pulse (ms s.win.cal.pulseMs)) s

/-- R134: the zero-cross delay of an attempt ends. -/
def delayEnd (s : State) : State :=
  match s.sw.op with
  | some o =>
    match o.step with
    | .delay _ => beginPulse s
    | .crossingWait _ | .pulse _ | .settle _ | .capture | .retry => s
  | none => s

/-- R134, R135: the pulse ends, and the contacts are given 60 ms. -/
def pulseEnd (s : State) : State :=
  match s.sw.op with
  | some o =>
    match o.step with
    | .pulse _ => opStep (.settle (ms 60)) s
    | .crossingWait _ | .delay _ | .settle _ | .capture | .retry => s
  | none => s

/-! ## Capture requests (R135, R145) -/

/-- R135: the attempt's capture is requested. -/
def requestAttemptCapture (s : State) : State :=
  if captureAccepted s then opStep .capture (startCapture s) else opStep .retry s

/-- R145: the relay check's capture is requested. -/
def requestCheck (s : State) : State :=
  if captureAccepted s then (startCapture s).modSw fun w => { w with check := .waiting }
  else s.modSw fun w => { w with check := .retry }

/-- R135: the settle time ends. -/
def settleTimeEnd (s : State) : State :=
  match s.sw.op with
  | some o =>
    match o.step with
    | .settle _ => requestAttemptCapture s
    | .crossingWait _ | .delay _ | .pulse _ | .capture | .retry => s
  | none => s

/-- The attempt in flight is at this step. -/
def Switch.atStep (w : Switch) (step : OpStep) : Bool := w.op.any fun o => o.step = step

/-- R135, R145: a refused request is made again once it would be accepted. -/
def retryCapture (s : State) : State :=
  if !captureAccepted s then s
  else if s.sw.atStep .retry then requestAttemptCapture s
  else if s.sw.check = .retry then requestCheck s
  else s

/-- R47, R135, R145: a capture was abandoned: it is requested again at once. -/
def captureAbandoned (s : State) : State :=
  let s := endCapture s
  if s.sw.atStep .capture then requestAttemptCapture s
  else if s.sw.check = .waiting then requestCheck s
  else s

/-! ## Settling (R129, R137, R138) -/

/-- R129: the settle evaluation. -/
def settleEvaluation (s : State) : State :=
  if !s.sw.mayStart then s
  else match s.sw.relay with
    | .closed => if s.sw.reasons.isEmpty then s else startOperation false s.sw.reasons.first s
    | .opened => if s.sw.reasons.isEmpty && !s.sw.armed then startOperation true none s else s
    | .opening | .closing => s

/-- R138 step 3, 12.4: the detail of a settle event. -/
def settleDetail (reason : Nat) (unsync failed : Bool) : Nat := reason + bit unsync * 64 + bit failed * 128

/-- R138 step 3: the reason number of an opening's event: its opening reason, or, for an opening that no rule gives one, a free
value (log entry 12), which advances the counter. -/
def settleReason (reason : Option Reason) (s : State) : Nat × State :=
  match reason with
  | some r => (r.num, s)
  | none => ((Config.unrecordedReason s.free).toNat, { s with free := s.free + 1 })

/-- R138 step 3: the settle event. -/
def settleEvent (closed unsync failed : Bool) (reason : Option Reason) (s : State) : State :=
  if closed then raiseEvent .supplyClosed (settleDetail 0 unsync failed) s
  else
    let r := settleReason reason s
    raiseEvent .supplyOpened (settleDetail r.1 unsync failed) r.2

/-- R139, R138 step 5: an open period begins. -/
def beginOpenPeriod (found : Bool) (s : State) : State :=
  s.modSw fun w => { w with openPeriod := true, ilRun := 0, relayFound := found }

/-- R138 step 5. -/
def settlePeriod (closed marked : Bool) (s : State) : State :=
  if closed then s.modSw fun w => { w with clean := 0 } else beginOpenPeriod marked s

/-- R137: the finding of a third attempt that has failed. -/
def failureFinding (closed il loadv : Bool) (s : State) : State :=
  if closed then finding .relay s
  else if il then finding .relay s
  else if loadv then bypassPresent s
  else s

/-- R138: an operation settles in the direction given. `failed`: not confirmed, on a capture with IL or LOADV present. A finding of step 2
that trips has TAMPER start the opening there, before steps 3 to 6 (R127, R137; DEDUCED: log entry 45). -/
def settle (closed failed il loadv unsync : Bool) (reason : Option Reason) (s : State) : State :=
  let s := s.modSw fun w => { w with op := none, relay := if closed then .closed else .opened }
  let s := if failed then failureFinding closed il loadv s else s
  let s := settleEvent closed unsync failed reason s
  let s := requestCommit .switch s
  let s := settlePeriod closed (failed && il) s
  settleEvaluation s

/-- R136, R137: a completed capture of an attempt is judged. -/
def judgeAttempt (o : Operation) (largest sum : Nat) (s : State) : State :=
  let c := s.win.cal
  let closed := s.sw.relay.towardClosed
  if confirms c closed largest sum then settle closed false false false o.unsync o.reason s
  else if o.attempt < 3 then
    s.modSw fun w => { w with op := some { o with attempt := o.attempt + 1, step := .crossingWait 0 } }
  else settle closed true (ilPresent c sum) (loadvPresent c largest) o.unsync o.reason s

/-! ## The relay check (R145) -/

/-- R145: a check that confirms the relay's direction: a settle after an abandoned operation, whose mark has gone with its record and is
a free value (log entry 12), and otherwise no event. The open period of an OPEN relay begins anew, with its run 0 and RELAY not found in
it (DESIGN CHOICE: log entry 39). -/
def checkConfirmed (closed : Bool) (s : State) : State :=
  match s.sw.relay with
  | .closing | .opening =>
    settle closed false false false (Config.unrecordedMark s.free) none { s with free := s.free + 1 }
  | .closed => settleEvaluation s
  | .opened => settleEvaluation (beginOpenPeriod false s)

/-- R145, R129: the check's capture is judged and the holdback becomes FREE; while the warning holds the part back it stays HELD and
no operation starts (log entry 15). -/
def judgeCheck (largest sum : Nat) (s : State) : State :=
  let closed := s.sw.relay.towardClosed
  let s := s.modSw fun w => { w with check := .noCheck, held := s.sup.phase = .warned }
  if confirms s.win.cal closed largest sum then checkConfirmed closed s
  else if s.sw.mayStart then startOperation closed none s
  else s

/-- R179 steps 8 and 9: the check's judgement ends the cold start: the button filter starts, the START-UP cause is cleared and the
phase is RUNNING. -/
def endColdStart (s : State) : State :=
  if s.sup.step = .coldRelayCheck then
    let s := s.modSw fun w => { w with buttonOn := true, button := .unsettled, buttonTime := 0 }
    (s.modPath fun p => { p with causeStartUp := false }).modSup fun p => { p with phase := .running, step := .noStep }
  else s

/-- R47: the 64th slot is taken: the result goes to the attempt or to the check that waits for it. -/
def captureComplete (s : State) : State :=
  if s.smp.capture = .running ∧ 64 ≤ s.smp.capCount then
    let largest := s.smp.capMax
    let sum := s.smp.capSum
    let s := endCapture s
    match s.sw.op with
    | some o => if o.step = .capture then judgeAttempt o largest sum s else s
    | none => if s.sw.check = .waiting then endColdStart (judgeCheck largest sum s) else s
  else s

/-! ## Loss of lock (R40) -/

/-- R40: lock is lost while frames run. -/
def lossWithFrames (s : State) : State :=
  let s := raiseEvent .meteringGap 0 (dropBlock s)
  let s := if s.smp.capture = .running then captureAbandoned s else s
  s.modSmp Sampling.loseLock

/-! ## Overload, delays and runs (R139, R141, R142, R154, R155) -/

/-- R142: the LIMIT delay reaches 0. -/
def limitDelayEnd (s : State) : State := follow .limit false (s.modSw fun w => { w with limitDelay := 0 })

/-- R142: the clean time reaches 600 s. -/
def cleanTimeEnd (s : State) : State :=
  if s.sw.relay = .closed then s.modSw fun w => { w with clean := 600, retry := 0 } else s

/-- R139, R140: the IL run has reached 50 in an open period. -/
def openRelayRun (s : State) : State :=
  if s.sw.openPeriod ∧ 50 ≤ s.sw.ilRun ∧ ¬ s.sw.relayFound then
    bypassAbsent (finding .relay (s.modSw fun w => { w with relayFound := true }))
  else s

/-- R154: an IMBALANCE run has reached 50. -/
def imbalanceChange (s : State) : State :=
  if s.tam.imbalance then
    if 50 ≤ s.tam.imbAbsent then conditionAbsent .imbalance (s.modTam fun t => { t with imbAbsent := 0 }) else s
  else if 50 ≤ s.tam.imbPresent then conditionPresent .imbalance (s.modTam fun t => { t with imbPresent := 0 })
  else s

/-- R155: a REVERSE run has reached 50. -/
def reverseChange (s : State) : State :=
  if s.tam.reverse then
    if 50 ≤ s.tam.revAbsent then conditionAbsent .reverse (s.modTam fun t => { t with revAbsent := 0 }) else s
  else if 50 ≤ s.tam.revPresent then conditionPresent .reverse (s.modTam fun t => { t with revPresent := 0 })
  else s

/-- The events that the counts have made due are taken, before the next frame, a loss of lock or hold entry changes what they rest on
(log entry 8), in one order of those that R147 allows (DESIGN CHOICE: log entry 31). Each is nothing when it is not due. A rising crossing
that is due is none of them: the filter's reset drops it (R53; DESIGN CHOICE: log entry 48). -/
def takeDue (s : State) : State :=
  let s := monitorChange .temp (monitorChange .hall (captureComplete s))
  let s := monitorChange .loadv (blockEnd s)
  let s := s.modEng Engine.updatePower
  spendThreshold (openRelayRun (overloadTrip (reverseChange (imbalanceChange s))))

/-! ## The button (R131) -/

/-- R131: a press event. -/
def press (s : State) : State :=
  if !s.sw.mayStart then s
  else
    let s := emergencyRequest s
    if s.sw.relay = .opened && s.sw.reasons.isEmpty && s.sw.armed then
      (startOperation true none s).modSw fun w => { w with armed := false }
    else s

/-! ## The record's fields (R144) -/

/-- R144: the fields that the record gives; a LIMIT so kept gets a new delay for the recorded stage. -/
def Switch.takeRecord (w : Switch) (r : Record) : Switch :=
  { w with
    relay := if r.relayClosed then .closed else .opened
    reasons := r.reasons
    armed := r.armed
    retry := r.retry
    limitDelay := if r.reasons.limit then limitDelayOf r.retry else 0
    awaitRecord := false
    heldReports := [] }

/-- R144: the record's fields are taken, and the start-up reports applied in their order, then the account state and TEMP ABSENT
(log entry 17). -/
def switchTakeRecord (r : Record) (s : State) : State :=
  let held := s.sw.heldReports
  let s := s.modSw fun w => w.takeRecord r
  let s := held.foldl (fun s x => takeReport x s) s
  takeReport (.temp false) (takeReport (.account s.sto.state) s)

/-! ## Filters and frames -/

/-- R42: a frame is produced while the loop is LOCKED and the converter CALIBRATED; what is due is taken first. -/
def takeFrame (v iL iN aux : BitVec 16) (s : State) : State :=
  if s.smp.framesRunning then frameWork v iL iN aux (takeDue s) else s

/-- R52: the filter becomes LOW or HIGH without an event. -/
def zcSettle (high : Bool) (s : State) : State :=
  if s.smp.loop = .locked then
    match s.smp.zc, high with
    | .unsettled, true => s.modSmp fun m => { m with zc := .high, zcCount := 0 }
    | .unsettled, false => s.modSmp fun m => { m with zc := .low, zcCount := 0 }
    | .high, false => s.modSmp fun m => { m with zc := .low, zcCount := 0 }
    | .high, true => s
    | .low, _ => s
  else s

/-- R52, R53: the filter goes from LOW to HIGH, and a rising crossing is handed to the Switch Controller. -/
def risingCrossing (s : State) : State :=
  if s.smp.loop = .locked ∧ s.smp.zc = .low then
    crossingEvent (s.modSmp fun m => { m with zc := .high, zcCount := 0 })
  else s

/-- R130: the button filter settles; a settled RELEASED that becomes PRESSED is a press. -/
def buttonSettle (pressed : Bool) (s : State) : State :=
  if !s.sw.buttonOn then s
  else
    let t := s.modSw fun w => { w with button := if pressed then .pressed else .released, buttonTime := 0 }
    if pressed && s.sw.button = .released then press t else t

/-- The state of a settled filter. -/
def inputState (isOpen : Bool) : InputFilter := if isOpen then .opened else .intact

/-- The filter of a switch input. -/
def Tamper.filter (t : Tamper) : SwitchInput → InputFilterState
  | .caseSwitch => t.caseFilter
  | .coverSwitch => t.coverFilter

/-- The Tamper Monitor with the filter of a switch input replaced. -/
def Tamper.setFilter (t : Tamper) (i : SwitchInput) (f : InputFilterState) : Tamper :=
  match i with
  | .caseSwitch => { t with caseFilter := f }
  | .coverSwitch => { t with coverFilter := f }

/-- The tamper kind of a switch input. -/
def switchKind : SwitchInput → TamperKind
  | .caseSwitch => .caseOpen
  | .coverSwitch => .cover

/-- R151: a switch filter settles, and the condition follows it. -/
def inputSettle (i : SwitchInput) (isOpen : Bool) (s : State) : State :=
  if (s.tam.filter i).state = inputState isOpen then s
  else
    let s := s.modTam fun t => t.setFilter i { state := inputState isOpen, time := 0, last := (t.filter i).last }
    if isOpen then conditionPresent (switchKind i) s else conditionAbsent (switchKind i) s

end Sys2Proof.Machine
end

