-- ==== Sys2Proof/Machine/SupplyOps.lean ====
section
/-! DEFINITION. The Supply Monitor's shared operations (chapter 10) with the shares of the other blocks: the loading of the latches
(R150), the steps of a cold start (R24, R25, R98, R179), hold entry (R176, R20, R54, R80, R95, R146), the power-fail warning
(R175), hold exit (R178), and the loss and the rise of supply (R174, R179, R180). -/

namespace Sys2Proof.Machine

open Sys2Proof

/-! ## Loading the latches (R150) -/

/-- R150 step 1: a latch that the record holds as ACTIVE is taken as HELD. -/
def Latch.loaded : Latch → Latch
  | .active => .held
  | .clear => .clear
  | .held => .held

/-- R150 step 1: the latches of the record, as taken. -/
def Latches.loaded (l : Latches) : Latches := tamperKinds.foldl (fun m k => m.set k (m.get k).loaded) l

/-- The waiting findings hold a kind. -/
def Findings.has (f : Findings) : TamperKind → Bool
  | .relay => f.relay
  | .port => f.port
  | .memory => f.memory
  | .path => f.path
  | .caseOpen | .cover | .magnet | .imbalance | .reverse | .bypass => false

/-- R150 step 3: the waiting findings are applied, in the order of k (DESIGN CHOICE: log entry 33). -/
def applyFindings (f : Findings) (s : State) : State :=
  tamperKinds.foldl (fun s k => if f.has k then latchFinding false k s else s) s

/-- R150: the latches are loaded. At step 2 CASE comes before COVER, as in the order of k (DESIGN CHOICE: log entry 33). -/
def loadLatches (l : Latches) (s : State) : State :=
  let waiting := s.tam.waiting
  let s := s.modTam fun t => { t with latches := l.loaded, loaded := true, waiting := .cold }
  let s := if s.tam.caseCond then latchPresent false .caseOpen s else s
  let s := if s.tam.coverCond then latchPresent false .cover s else s
  let s := applyFindings waiting s
  let t := tripCondition s.win.cal.tripMask s.tam.latches
  report (.trip t) (s.modTam fun m => { m with tripReported := t })

/-! ## The steps of a cold start (R24, R25, R96, R98, R179) -/

/-- R24: the layout comes into force. -/
def WindowMap.configure (w : WindowMap) (l : Layout) : WindowMap :=
  { w with configured := true, table := l.table, selectMask := l.selectMask, fast := l.fast, page0Valid := true }

/-- R24, R26: a page that is not valid: a MEMORY condition for a failed read, and for an invalid page on a sealed part. -/
def invalidPage (readFailed : Bool) (s : State) : State :=
  if readFailed || s.port.sealed then finding .memory s else s

/-- R24: the configuration state is decided from the read of page 0. -/
def decidePage0 (read : Option (List Byte)) (s : State) : State :=
  match read.bind validLayout with
  | some l =>
    let s := s.modWin fun w => w.configure l
    report (.unconfigured false) (s.modLog fun g => { g with ring := s.win.ring })
  | none =>
    let s := invalidPage read.isNone s
    let s := (s.modLog EventLog.withoutRing).modSw fun w => { w with awaitRecord := false }
    startUpConditions (report (.unconfigured true) s)

/-- R25: the calibration in force is decided from the read of page 1. -/
def decidePage1 (read : Option (List Byte)) (s : State) : State :=
  match read.bind validCalibration with
  | some c => s.modWin fun w => { w with cal := c, calFromPage1 := true, page1Valid := true }
  | none => invalidPage read.isNone s

/-- R179 step 6: calibration is ordered, and the job ends with its restore. -/
def calibrateAndRestore (s : State) : State :=
  let s := (orderCalibration s).modSup fun p => { p with step := .coldCalRestore, restoreDone := false }
  beginRestore s

/-- R179 steps 7 and 8: when calibration and restore are complete, POWER_UP (COLD) is raised and the relay check ordered. -/
def coldPowerUp (s : State) : State :=
  if s.sup.step = .coldCalRestore ∧ s.sup.restoreDone ∧ s.smp.conv = .calibrated then
    let s := raiseEvent .powerUp 0x01 s
    requestCheck (s.modSup fun p => { p with step := .coldRelayCheck })
  else s

/-- R98: the fields of the record are handed to their owners. -/
def handOut (r : Record) (s : State) : State :=
  let s := startUpConditions (s.modEng fun e => e.takeRecord r)
  let s := switchTakeRecord r (loadLatches r.latches s)
  s.modLog fun l => l.takeFront r

/-- R96, R97, R98: the account is loaded from the selected slot, or rebuilt VOID. -/
def loadAccount (choice : Option (Slot × List Byte × Record)) (s : State) : State :=
  let s := s.modSto fun a => a.load choice
  match choice with
  | some c => handOut c.2.2 s
  | none => handOut voidRecord (requestCommit .void (raiseEvent .accountVoid 0 (finding .memory s)))

/-! ## Hold entry (R176) -/

/-- R185: a PAGE instruction ends: its result, and the PAGE cause cleared. -/
def endPage (r : Result) (s : State) : State :=
  (s.modPort fun p => { p with last := r, pagePending := false }).modPath fun p => { p with causePage := false }

/-- R20: what hold entry means to the owner of the job that is abandoned: an interruption to a commit that has neither succeeded
nor failed (R95), a failure with a new job to an append (R169). The PAGE WRITE job is ended with the waiting ones (R185). A commit whose
restore alone is abandoned has ended for the Account Store, but is no end for a Log Writer in BACKOFF (DESIGN CHOICE: log entry 47). -/
def abandonJob (r : JobRun) (s : State) : State :=
  match r.kind with
  | .urgentCommit | .commit => if r.stage = .restore then commitEnded s else interruptCommit s
  | .logAppend => if s.log.stage = .running then askAppend s else s
  | .startUpReads | .pageWrite | .restore => s

/-- R20 step 1: the job holding the segment is abandoned with STOP. Where the STOP of a clock fault is owed, that one is this STOP, and
what waits behind it is dropped (log entry 35). -/
def abandonRun (s : State) : State :=
  match s.path.run with
  | some r =>
    abandonJob r (emit (if s.path.stopOwed then [] else [.stop])
      (s.modPath fun p => { p with run := none, owner := .free, behind := [] }))
  | none => s

/-- R20: the Path Unit's share of hold entry. A host transaction that has not reached a byte boundary within the 40 ms is cut at once
(DESIGN CHOICE: log entry 30). -/
def holdPath (s : State) : State :=
  let s := if s.path.owner = .host then cut s else s
  let s := abandonRun s
  let s := if s.port.pagePending then endPage .writeFailed s else s
  let s := dropJob .startUpReads (dropJob .pageWrite (dropJob .restore s))
  s.modPath fun p => { p with owner := .free, mirror := none, cutPending := false, holdTime := 0, pollTime := 0, clockLowTime := 0 }

/-- R54: the Sampling Unit's share, and R80: the Energy Engine's. -/
def holdSampling (s : State) : State :=
  (dropBlock s).modSmp fun m =>
    { m.zcReset with
      capture := .idle
      capCount := 0
      loop := .stopped
      conv := .uncalibrated
      calOrdered := false
      calTime := 0 }

/-- R146: the Switch Controller's share. -/
def holdSwitch (s : State) : State :=
  s.modSw fun w => { w with
    held := true
    op := none
    check := .noCheck
    button := .unsettled
    buttonTime := 0
    buttonOn := false
    lowcr := false }

/-- R176: the blocks take hold entry. -/
def enterHold (s : State) : State :=
  let s := s.modSup fun p => { p with phase := .held, timer := 0, step := .noStep, holdDue := false }
  holdSampling (holdPath (holdSwitch s))

/-- R176: the part enters HOLD. What the counts have made due is taken first: a block or a capture that is already complete is not in
progress (R44, R47, R54, R80; log entry 8). -/
def holdEntry (s : State) : State := enterHold (takeDue s)

/-! ## The warning (R175, R179) -/

/-- R185: a cold start ends a PENDING PAGE instruction, and the last result reads NONE (log entry 16). -/
def Port.atColdStart (p : Port) : Port := if p.pagePending then { p with last := .noResult, pagePending := false } else p

/-- R179: every block's state takes its cold-start value. The key store, the seal state, the filters of the switch inputs as given,
the port's frame state and the crystal's count are kept; the upstream lines are released; a PENDING PAGE ends (R185). -/
def coldState (caseFilter coverFilter : InputFilterState) (s : State) : State :=
  { s with
    path := { Path.cold s.pins.strap with phase := if s.path.phase = .idle then .idle else .refused }
    win := .cold
    smp := .cold
    eng := .cold
    sto := .cold
    dec := .cold s.dec.key
    sw := .cold
    tam := .cold caseFilter coverFilter
    log := .cold
    sup := .cold s.sup.subSec
    port := s.port.atColdStart }

/-- R179, R180: a transaction open on the memory segment is ended with STOP. -/
def stopAny (s : State) : State :=
  if s.path.segOpen || s.path.run.isSome then emit [.stop] s else s

/-- R179: the cold start is abandoned and begins again from step 1. A RESTART that still waits for the end of a host byte is met by this
cold start: it is dropped, and the CASE and COVER filters run on (DESIGN CHOICE: log entry 36). -/
def abandonColdStart (s : State) : State := coldState s.tam.caseFilter s.tam.coverFilter (stopAny s)

/-- R175: the shares of the blocks at a warning in RUNNING or RESUMING. A submission that begins after it, in a transaction that has
not reached its byte boundary, is kept (DESIGN CHOICE: log entry 32). -/
def warningShares (s : State) : State :=
  let s := s.modPath fun p => { p with causePower := true, cutPending := p.owner = .host }
  let s := requestCommit .powerFail (dropSubmissions s)
  raiseEvent .powerDown 0 (s.modSw fun w => { w with held := true })

/-- R175, R176: the warning is raised in RUNNING or RESUMING; with no commit owed, hold entry is due at once. An overload trip that is
due comes before the holdback (log entry 8). -/
def enterWarned (s : State) : State :=
  let s := (overloadTrip s).modSup fun p => { p with phase := .warned, timer := 0, step := .noStep }
  let s := warningShares s
  if s.sto.state = .noAccount then s.modSup fun p => { p with holdDue := true } else s

/-- R174, R175, R179: the warning becomes RAISED. -/
def powerFailWarning (s : State) : State :=
  if s.sup.raised then s
  else
    let s := s.modSup fun p => { p with raised := true, belowTime := 0, aboveTime := 0 }
    match s.sup.phase with
    | .starting => abandonColdStart s
    | .running | .resuming => enterWarned s
    | .warned | .held => s

/-- R176: the hold entry that is due is taken once no cut is still to be taken. -/
def takeHold (s : State) : State :=
  if s.sup.holdDue && s.sup.phase = .warned && !s.path.cutAsked then holdEntry s else s

/-- R176: the hold-entry timer has reached 40 ms. -/
def holdTimerEnd (s : State) : State := if s.sup.phase = .warned then holdEntry s else s

/-! ## Hold exit (R178) -/

/-- R39: the Supply Monitor starts the loop. -/
def startLoop (s : State) : State := s.modSmp fun m => { m with loop := .locking }

/-- R178 step 1, R143, R145: hold exit begins. -/
def beginHoldExit (s : State) : State :=
  let s := startLoop (s.modSup fun p => { p with phase := .resuming, step := .exitLock })
  let s := s.modSw fun w => { w with buttonOn := true, button := .unsettled, buttonTime := 0, lowcr := s.eng.lowFlag }
  requestCheck s

/-- R174, R176, R178, R179 step 2: the warning becomes CLEAR. It cannot clear between the warning and hold entry. -/
def warningClear (s : State) : State :=
  if !s.sup.raised || s.sup.phase = .warned then s
  else
    let s := s.modSup fun p => { p with raised := false, belowTime := 0, aboveTime := 0 }
    match s.sup.phase with
    | .held => beginHoldExit s
    | .starting => if s.sup.step = .coldClocks then startLoop s else s
    | .running | .warned | .resuming => s

/-- R178 steps 4 to 6: the hold-exit check job has ended; a part without a ring passes the drain at once. With a full queue in
BACKOFF the record is counted alone and asks for no append, so the drain waits for the end of a commit (R166, R169; DESIGN CHOICE: log
entry 50). -/
def exitPowerUp (s : State) : State :=
  let s := raiseEvent .powerUp 0x02 (s.modSup fun p => { p with step := .exitDrain })
  if s.log.queue.isEmpty then endDrain s else s

/-! ## Lock and calibration (R39, R41) -/

/-- R178, R179: what the sequence does at lock. -/
def sequenceAtLock (s : State) : State :=
  match s.sup.step with
  | .coldClocks => addJob .startUpReads (s.modSup fun p => { p with step := .coldReads })
  | .exitLock => orderCalibration (s.modSup fun p => { p with step := .exitCal })
  | .noStep | .coldReads | .coldCalRestore | .coldRelayCheck | .exitCal | .exitCheck | .exitDrain => s

/-- R39, R41, R52: the loop locks. -/
def loopLock (s : State) : State :=
  if s.smp.loop = .locking then
    sequenceAtLock (s.modSmp fun m => Sampling.beginOrdered { m.zcReset with loop := .locked })
  else s

/-- R178 step 3, R179 step 6: what the sequence does when calibration is complete. -/
def sequenceAtCalibration (s : State) : State :=
  if s.sup.step = .exitCal then addJob .startUpReads (s.modSup fun p => { p with step := .exitCheck })
  else coldPowerUp s

/-- R41: ten milliseconds of calibration are complete. -/
def calibrationDone (measured : BitVec 16) (s : State) : State :=
  if s.smp.conv = .calibrating then sequenceAtCalibration (s.modSmp fun m => m.calibrated measured) else s

/-- R40, R41: the loop loses lock. -/
def lossOfLock (s : State) : State :=
  if s.smp.loop = .locked then
    if s.smp.framesRunning then lossWithFrames (takeDue s) else s.modSmp Sampling.loseLock
  else s

/-! ## Loss and rise of supply (R174, R179, R180) -/

/-- R174: the supply falls below the retention level: all volatile state is lost. The lines are released. -/
def supplyLoss (s : State) : State :=
  let t := coldState .cold .cold s
  { t with
    lines := .released
    path := { t.path with phase := .idle }
    sup := { Supply.cold 0 with powered := false }
    port := .cold s.port.sealed }

/-- R179: the supply rises above its start level, and a cold start begins. -/
def coldStart (s : State) : State :=
  let t := supplyLoss s
  { t with sup := .cold 0 }

/-- R180: a RESTART begins a cold start; the switch filters return to UNSETTLED. -/
def restart (s : State) : State := coldState .cold .cold (stopAny s)

/-- R180 step 1: an accepted RESTART lets a host byte in progress upstream end first (log entry 36). -/
def askRestart (s : State) : State :=
  if s.pins.midByte then s.modSup fun p => { p with restartDue := true } else restart s

/-- R180: the RESTART that has waited for the end of the byte. -/
def takeRestart (s : State) : State := if s.sup.restartDue && !s.pins.midByte then restart s else s

end Sys2Proof.Machine
end

