-- ==== Sys2Proof/Machine/JobOps.lean ====
section
/-! DEFINITION. The part's jobs, transaction by transaction (R13, R14): the grant (R2, R3, R20), START-UP READS (R96, R99, R172, R179),
the commit (R88, R90, R91, R93), the page write (R185), the log append (R170), polls and their timeouts, and the end of the pointer
restore that ends every job. -/

namespace Sys2Proof.Machine

open Sys2Proof

/-! ## The grant (R2, R3, R20) -/

/-- R2: the job takes the segment. -/
def takeJob (k : JobKind) (stage : JobStage) (s : State) : State :=
  (dropJob k s).modPath fun p => { p with
    owner := .own, run := some { kind := k, stage := stage }, segOpen := false, pollTime := 0, clockLowTime := 0 }

/-- R99: the hold-exit check reads the verified slot, if there is one. -/
def startHoldCheck (s : State) : State :=
  match s.sto.slot with
  | some k => issue (.read (s.slotAddress k) 64) (takeJob .startUpReads .holdCheck s)
  | none => beginRestore (takeJob .startUpReads .holdCheck s)

/-- R88, R90, R162: the snapshot is taken, and attempt 1 writes it into the target slot. -/
def startCommit (k : JobKind) (s : State) : State :=
  let s := furtherCommit (takeSnapshot (takeJob k .commitWrite s))
  issue (.write (s.slotAddress s.sto.target) s.sto.snapshotBytes) s

/-- R185: the page is written. -/
def startPageWrite (s : State) : State :=
  issue (.write (pageAddr s.port.pageNo) s.port.pageData) (takeJob .pageWrite .pageWrite s)

/-- R170: the body of the oldest record is written. -/
def startAppend (s : State) : State :=
  let s := (takeJob .logAppend .logBody s).modLog fun l => { l with stage := .running }
  issue (.write s.log.bodyWrite.1 s.log.bodyWrite.2) s

/-- R2, R3: a job is granted, and issues its START. The read of page 0 at a cold start is of all its 128 bytes, those after the CRC too
(R22, R179; DESIGN CHOICE: log entry 52). -/
def startJob (k : JobKind) (s : State) : State :=
  match k with
  | .startUpReads =>
    if s.sup.phase = .starting then issue (.read 0 128) (takeJob .startUpReads .readPage0 s) else startHoldCheck s
  | .urgentCommit => startCommit .urgentCommit s
  | .commit => startCommit .commit s
  | .pageWrite => startPageWrite s
  | .logAppend => startAppend s
  | .restore => beginRestore (takeJob .restore .restore s)

/-- R2: the grant. -/
def jobGrant (s : State) : State :=
  match nextJob s with
  | some k => startJob k s
  | none => s

/-- The stage of the job in progress. -/
def State.stage (s : State) : Option JobStage := s.path.run.map (·.stage)

/-- The stage whose transaction is on the memory segment, which the memory can answer: none while a STOP is owed there (R18; log entry
35). -/
def State.onSegment (s : State) : Option JobStage := if s.path.stopOwed then none else s.stage

/-! ## START-UP READS -/

/-- R24: page 0 has been read, or its read has failed; page 1 is next. Page 1 too is read whole (DESIGN CHOICE: log entry 52). -/
def page0Done (read : Option (List Byte)) (s : State) : State := jobStage .readPage1 (.read 128 128) (decidePage0 read s)

/-- R25, R150, R179: page 1 has been read, or its read has failed; slot A is next, or the job ends. -/
def page1Done (read : Option (List Byte)) (s : State) : State :=
  let s := decidePage1 read s
  if s.win.configured then jobStage .readSlotA (.read (s.slotAddress .a) 64) s
  else calibrateAndRestore (loadLatches .cold s)

/-- R96: a failed read of an account slot is a MEMORY condition. -/
def slotReadReport (read : Option (List Byte)) (s : State) : State := if read.isNone then finding .memory s else s

/-- R96, R172: both slots have been read; the ring is read next. -/
def slotsDone (a b : Option (List Byte)) (s : State) : State :=
  let s := loadAccount (selectSlot (slotRecord a) (slotRecord b)) (s.modSto fun x => { x with slotA := none })
  jobStage (.readRing 0) (.read (s.log.recoverySlot 0) 16) s

/-- R96: slot A has been read, or its read has failed; its bytes are kept, and slot B is read next. -/
def slotADone (read : Option (List Byte)) (s : State) : State :=
  jobStage .readSlotB (.read (s.slotAddress .b) 64) ((slotReadReport read s).modSto fun x => { x with slotA := read })

/-- R96: slot B has been read, or its read has failed. -/
def slotBDone (read : Option (List Byte)) (s : State) : State := slotsDone s.sto.slotA read (slotReadReport read s)

/-- R96: the end of slot B's read, if it has come. -/
def slotBRead (r : Option (ReadResult 64)) (s : State) : State :=
  match r with
  | some r => slotBDone (readBytes r) (setMirror (readMirror r (s.slotAddress .b) s.path.mirror) s)
  | none => s

/-- R96: the reads of slots A and B have completed, or that of slot A alone. When slot A's read has already ended, only slot B's counts
here (log entry 24). -/
def slotSelection (a : ReadResult 64) (b : Option (ReadResult 64)) (s : State) : State :=
  match s.onSegment with
  | some .readSlotA =>
    slotBRead b (slotADone (readBytes a) (setMirror (readMirror a (s.slotAddress .a) s.path.mirror) s))
  | some .readSlotB => slotBRead b s
  | _ => s

/-- R172: recovery stops after `j` matches, and step 6 of the cold start follows. -/
def stopRecovery (j : Nat) (s : State) : State := calibrateAndRestore (endRecovery j s)

/-- R172: the slot at step `j` has been read, or its read has failed. -/
def ringSlotDone (j : Nat) (read : Option (List Byte)) (s : State) : State :=
  match read with
  | none => stopRecovery j (finding .memory s)
  | some bs =>
    if s.log.isMatch j bs then
      if (s.log.ring.map Ring.capacity).getD 0 ≤ j + 1 then stopRecovery (j + 1) s
      else jobStage (.readRing (j + 1)) (.read (s.log.recoverySlot (j + 1)) 16) s
    else stopRecovery j s

/-- R172: a read of a ring slot has completed. -/
def logSlotRead (r : ReadResult 16) (s : State) : State :=
  match s.onSegment with
  | some (.readRing j) => ringSlotDone j (readBytes r) (setMirror (readMirror r (s.log.recoverySlot j) s.path.mirror) s)
  | _ => s

/-- R99: the hold-exit check has read its slot, or its read has failed; the job ends with its restore. -/
def holdCheckDone (read : Option (List Byte)) (s : State) : State := beginRestore (holdExitCompare read s)

/-- The address that the hold-exit check reads. -/
def State.checkAddress (s : State) : Addr := (s.sto.slot.map s.slotAddress).getD 0

/-! ## Commits (R90 to R94) -/

/-- R93, R94: an attempt has failed. -/
def attemptFailed (s : State) : State :=
  if s.sto.attempt = 1 then jobStage .commitPrePoll .poll (s.modSto fun a => { a with attempt := 2 })
  else beginRestore (commitFail (s.sto.inTrigger.getD .spend) s)

/-- R90: the write of an attempt has ended; the poll follows, or the attempt has failed. -/
def commitWritten (r : WriteResult) (s : State) : State :=
  let s := setMirror (writeMirror r (s.slotAddress s.sto.target) 64) s
  if r = .acked then jobStage .commitPoll .poll s else attemptFailed s

/-- R90: the poll of attempt 2 has been answered ACK, and the attempt writes the target slot again. -/
def secondWrite (s : State) : State :=
  jobStage .commitWrite (.write (s.slotAddress s.sto.target) s.sto.snapshotBytes) s

/-- R91: the record has been read back and is compared with the snapshot. -/
def commitReadBack (r : ReadResult 64) (s : State) : State :=
  let s := setMirror (readMirror r (s.slotAddress s.sto.target) s.path.mirror) s
  if readBytes r = some s.sto.snapshotBytes then beginRestore (commitSuccess s) else attemptFailed s

/-! ## Page writes (R185) -/

/-- R185: the PAGE instruction will end with this result, and the job ends with its restore. -/
def pageEnds (r : Result) (s : State) : State := beginRestore (s.modPort fun p => { p with pageResult := r })

/-- R185: the write of the page has ended. -/
def pageWritten (r : WriteResult) (s : State) : State :=
  let s := setMirror (writeMirror r (pageAddr s.port.pageNo) 128) s
  if r = .acked then jobStage .pagePoll .poll s else pageEnds .writeFailed s

/-- R27: the copy read back passes the checks of its page. -/
def pagePasses (page : Nat) (bs : List Byte) : Bool :=
  if page = 0 then (validLayout bs).isSome else (validCalibration bs).isSome

/-- R185: the result of a read-back. -/
def pageOutcome (p : Port) (r : ReadResult 128) : Result :=
  if readBytes r = some p.pageData then (if pagePasses p.pageNo p.pageData then .ok else .pageInvalid) else .writeFailed

/-- R185: the page has been read back. -/
def pageReadBack (r : ReadResult 128) (s : State) : State :=
  let s := setMirror (readMirror r (pageAddr s.port.pageNo) s.path.mirror) s
  pageEnds (pageOutcome s.port r) s

/-! ## Log appends (R170) -/

/-- R170: an append has failed, and the job ends with its restore. -/
def appendEnds (s : State) : State := beginRestore (appendFail s)

/-- R170: a write of an append has ended. -/
def appendWritten (a : Addr) (n : Nat) (poll : JobStage) (r : WriteResult) (s : State) : State :=
  let s := setMirror (writeMirror r a n) s
  if r = .acked then jobStage poll .poll s else appendEnds s

/-! ## Polls (R14) -/

/-- R14: a poll is answered ACK, and the job goes on. At a first attempt, and in a restore, the transaction itself goes on. -/
def pollAck (s : State) : State :=
  match s.onSegment with
  | some .commitPrePoll => secondWrite s
  | some .commitPoll => jobStage .commitRead (.read (s.slotAddress s.sto.target) 64) s
  | some .pagePoll => jobStage .pageRead (.read (pageAddr s.port.pageNo) 128) s
  | some .logBodyPoll => jobStage .logNumber (.write s.log.numberWrite.1 s.log.numberWrite.2) s
  | some .logNumberPoll => beginRestore (appendDone s)
  | some .readPage0 | some .readPage1 | some .readSlotA | some .readSlotB | some (.readRing _) | some .holdCheck
  | some .commitWrite | some .commitRead | some .pageWrite | some .pageRead | some .logBody | some .logNumber
  | some .restore | none => s

/-! ## The end of a job (R13) -/

/-- R13: the pointers after a restore. -/
def restorePointers (ok : Bool) (kind : JobKind) (s : State) : State :=
  if ok then s.modPath fun p => { p with mirror := some p.restoreAddr, hostPtr := some p.restoreAddr }
  else
    let s := setMirror none s
    if kind = .restore then s else addJob .restore s

/-- R176: an urgent commit has ended with its restore, after success or failure: hold entry is due. A POWERFAIL request that waits
behind it is still owed and keeps hold entry back (DEDUCED: log entry 18). -/
def urgentEnded (s : State) : State :=
  if s.sup.phase = .warned && s.sto.waiting != some .powerFail then s.modSup fun p => { p with holdDue := true } else s

/-- R178, R179: START-UP READS has ended with its restore. -/
def readsEnded (s : State) : State :=
  match s.sup.step with
  | .coldCalRestore => coldPowerUp (s.modSup fun p => { p with restoreDone := true })
  | .exitCheck => exitPowerUp s
  | .noStep | .coldClocks | .coldReads | .coldRelayCheck | .exitLock | .exitCal | .exitDrain => s

/-- What the end of a job means to its owner (R92, R94, R169, R176, R178, R179, R185). -/
def jobEnded (kind : JobKind) (s : State) : State :=
  match kind with
  | .startUpReads => readsEnded s
  | .urgentCommit => urgentEnded (retryAppend (commitEnded s))
  | .commit => retryAppend (commitEnded s)
  | .pageWrite => endPage s.port.pageResult s
  | .logAppend => s
  | .restore => s

/-- R13: the restore that ends a job has ended, and the owner returns to FREE. -/
def restoreEnd (ok : Bool) (s : State) : State :=
  match s.path.run with
  | some r =>
    if r.stage = .restore then
      let s := s.modPath fun p => { p with run := none, owner := .free, behind := [], pollTime := 0 }
      jobEnded r.kind (restorePointers ok r.kind s)
    else s
  | none => s

/-! ## Failures of a job (R14, R18) -/

/-- R14, R18: the poll limit has passed, or the clock fault has ended a transaction: the failure is reported to the job's owner. -/
def jobFailed (s : State) : State :=
  match s.stage with
  | some .readPage0 => page0Done none s
  | some .readPage1 => page1Done none s
  | some .readSlotA => slotADone none s
  | some .readSlotB => slotBDone none s
  | some (.readRing j) => ringSlotDone j none s
  | some .holdCheck => holdCheckDone none s
  | some .commitPrePoll | some .commitWrite | some .commitPoll | some .commitRead => attemptFailed s
  | some .pageWrite | some .pagePoll | some .pageRead => pageEnds .writeFailed s
  | some .logBody | some .logBodyPoll | some .logNumber | some .logNumberPoll => appendEnds s
  | some .restore => restoreEnd false s
  | none => s

/-- R18: the clock fault in a transaction of a job. -/
def jobClockFault (s : State) : State :=
  if s.path.run.isSome then
    jobFailed (s.modPath fun p => { p with mirror := none, stopOwed := true, clockLowTime := 0 })
  else s

/-- R18: the clock fault in a transaction of the host, its opening address byte included, or of a job. At the STOP, or the discarded
byte, with which a host transaction has ended, the owner is FREE and there is no fault (DESIGN CHOICE: log entry 38). -/
def memoryClockFault (s : State) : State :=
  match s.carriedAddress with
  | some select => hostClockFault (openAddress select s)
  | none =>
    match s.path.owner with
    | .host => if s.path.segOpen || s.path.stopping then hostClockFault s else s
    | .own => jobClockFault s
    | .free => s

/-! ## Completions, each taken at its own stage of the job (log entry 1) -/

/-- R13: the restore has been answered. -/
def pointerRestoreEnd (ok : Bool) (s : State) : State := if s.path.stopOwed then s else restoreEnd ok s

/-- R24: the read of page 0 has completed. -/
def page0Read (r : ReadResult 128) (s : State) : State :=
  if s.onSegment = some .readPage0 then page0Done (readBytes r) (setMirror (readMirror r 0 s.path.mirror) s) else s

/-- R25: the read of page 1 has completed. -/
def page1Read (r : ReadResult 128) (s : State) : State :=
  if s.onSegment = some .readPage1 then page1Done (readBytes r) (setMirror (readMirror r 128 s.path.mirror) s) else s

/-- R90: the write of an attempt has completed. While attempt 2 polls, the poll has been answered ACK and the write has followed it, in
this one command (log entry 24). -/
def commitWriteDone (r : WriteResult) (s : State) : State :=
  match s.onSegment with
  | some .commitWrite => commitWritten r s
  | some .commitPrePoll => commitWritten r (secondWrite s)
  | some .commitPoll | some .commitRead | some .readPage0 | some .readPage1 | some .readSlotA | some .readSlotB
  | some (.readRing _) | some .holdCheck | some .pageWrite | some .pagePoll | some .pageRead | some .logBody
  | some .logBodyPoll | some .logNumber | some .logNumberPoll | some .restore | none => s

/-- R91: the read-back has completed. -/
def commitReadbackDone (r : ReadResult 64) (s : State) : State :=
  if s.onSegment = some .commitRead then commitReadBack r s else s

/-- R99: the read of the hold-exit check has completed. -/
def holdExitCheck (r : ReadResult 64) (s : State) : State :=
  if s.onSegment = some .holdCheck then
    holdCheckDone (readBytes r) (setMirror (readMirror r s.checkAddress s.path.mirror) s)
  else s

/-- R170: the body or the number has been written. -/
def logAppendWriteDone (r : WriteResult) (s : State) : State :=
  match s.onSegment with
  | some .logBody => appendWritten s.log.bodyWrite.1 12 .logBodyPoll r s
  | some .logNumber => appendWritten s.log.numberWrite.1 4 .logNumberPoll r s
  | _ => s

/-- R185: the write of a page has completed. -/
def pageWriteDone (r : WriteResult) (s : State) : State :=
  if s.onSegment = some .pageWrite then pageWritten r s else s

/-- R185: the read-back of a page has completed. -/
def pageWriteResult (r : ReadResult 128) (s : State) : State :=
  if s.onSegment = some .pageRead then pageReadBack r s else s

end Sys2Proof.Machine
end

