-- ==== Sys2Proof/WellFormed.lean ====
section
/-! DEFINITION. Which commands are well formed. The operands' types already hold every bound the spec gives an operand (bytes,
16-bit conversions, reads of exactly 128, 64 or 16 bytes, the 40 and 128 bytes of KEY and PAGE), except one: the code of an
UNKNOWN_INSTRUCTION names no instruction of the port (12.7). -/

namespace Sys2Proof

/-- The instruction codes of the port (12.7): IDENT, STATUS, KEY, PAGE, SEAL, RESTART. -/
def portCodes : List Byte := [0x01, 0x02, 0x10, 0x20, 0x5E, 0x3C]

/-- R182, 12.7: an UNKNOWN_INSTRUCTION carries a code that names no instruction; every other command is well formed. -/
def Instr.wf : Instr → Bool
  | .unknownInstruction code => !portCodes.contains code
  | _ => true

end Sys2Proof
end

