-- ==== Sys2Proof/Machine/PortOps.lean ====
section
/-! DEFINITION. The Commissioning Port's shared operations (chapter 11): the frame and its bits (R182), the replies (R183) and the
instructions (R184 to R187), which a frame takes at the moment their last required byte is complete. -/

namespace Sys2Proof.Machine

open Sys2Proof

/-! ## Bits and bytes (R182) -/

/-- The eight bits of a byte, least significant first. -/
def byteBits (b : Byte) : List Bool := (List.range 8).map b.getLsbD

/-- The byte of eight bits, the first received the least significant. -/
def bitsByte (bits : List Bool) : Byte := BitVec.ofNat 8 (bits.foldr (fun b acc => bit b + 2 * acc) 0)

/-- R182: PSEL falls: a frame begins, and the status byte is captured. PDO stays released until the first rising edge of PCLK (DESIGN
CHOICE: log entry 40). -/
def pselFallOp (s : State) : State :=
  if s.port.frame then s
  else
    let status := statusBits s
    s.modPort fun p => { p with frame := true, bits := [], bytes := [], taken := false, out := status }

/-- R182: one bit is taken, and the next bit of the reply is shifted out. -/
def Port.shift (p : Port) (pdi : Bool) : Port :=
  let bits := p.bits ++ [pdi]
  if bits.length = 8 then { p with bits := [], bytes := p.bytes ++ [bitsByte bits], out := p.out.tail }
  else { p with bits := bits, out := p.out.tail }

/-! ## Instructions (R183 to R187) -/

/-- R182: an instruction is taken: not after another one in the same frame. An instruction command with no frame in progress stands
for its whole frame (log entry 19). -/
def Port.takes (p : Port) : Bool := !(p.frame && p.taken)

/-- R182, R183: the frame's instruction has been taken, with these reply bytes. -/
def replied (reply : List Byte) (s : State) : State :=
  s.modPort fun p => { p with taken := p.frame, out := p.out ++ (reply.map byteBits).flatten }

/-- R183: the last result is set. -/
def setResult (r : Result) (s : State) : State := s.modPort fun p => { p with last := r }

/-- R187: KEY, PAGE and RESTART are refused on a sealed part, with a PORT finding. -/
def refuseSealed (s : State) : State := finding .port (setResult .sealed s)

/-- R183: IDENT. -/
def identOp (s : State) : State := replied [0x4D, 0x12, 0x0B, 0x01] s

/-- R183: STATUS. -/
def statusOp (s : State) : State := replied [BitVec.ofNat 8 s.port.last.code] s

/-- R184: KEY, with its 40 data bytes. -/
def keyOp (data : List Byte) (s : State) : State :=
  let s := replied [] s
  if s.port.sealed then refuseSealed s
  else if s.port.pagePending then setResult .busy s
  else if s.dec.key.isSome then setResult .notReady s
  else match readKey data with
    | none => setResult .badArgument s
    | some k => setResult .ok (s.modDec fun d => { d with key := some k })

/-- R21, R27: a PAGE write sets the valid flag of its page to no. -/
def clearPageValid (page : Nat) (s : State) : State :=
  s.modWin fun w => if page = 0 then { w with page0Valid := false } else { w with page1Valid := false }

/-- R185: a PAGE instruction is accepted. -/
def acceptPage (page : Nat) (data : List Byte) (s : State) : State :=
  let s := clearPageValid page (s.modPort fun p => { p with
    last := .pending, pagePending := true, pageNo := page, pageData := data, pageResult := .writeFailed })
  addJob .pageWrite (s.modPath fun p => { p with causePage := true })

/-- R185: PAGE, with its page number and 128 data bytes. -/
def pageOp (number : Byte) (data : List Byte) (s : State) : State :=
  let s := replied [] s
  if s.port.sealed then refuseSealed s
  else if s.port.pagePending then setResult .busy s
  else if 2 ≤ number.toNat then setResult .badArgument s
  else if s.sup.phase != .running then setResult .notReady s
  else acceptPage number.toNat data s

/-- R186: SEAL. -/
def sealOp (s : State) : State :=
  let s := replied [] s
  if s.port.sealed then setResult .sealed s
  else if s.port.pagePending then setResult .busy s
  else if !(s.dec.key.isSome && s.win.page0Valid && s.win.page1Valid) then setResult .notReady s
  else setResult .ok (s.modPort fun p => { p with sealed := true })

/-- R180, R186: RESTART. -/
def restartOp (s : State) : State :=
  let s := replied [] s
  if s.port.sealed then refuseSealed s
  else if s.port.pagePending then setResult .busy s
  else askRestart (setResult .ok s)

/-- R182: an instruction byte that names no instruction. -/
def unknownOp (code : Byte) (s : State) : State :=
  if portCodes.contains code then s else setResult .unknown (replied [] s)

/-- An instruction is taken, unless the frame has already taken one. -/
def portTake (f : State → State) (s : State) : State := if s.port.takes then f s else s

/-! ## The instruction that a frame's bytes complete (R182, R187) -/

/-- The `n` bytes after the first `off` bytes of a frame. -/
def frameBytes (n off : Nat) (bs : List Byte) : Vector Byte n := Vector.ofFn fun i => bs.getD (off + i.val) 0

/-- R182, R187: the instruction whose last required byte is complete. A sealed part needs the instruction byte alone for KEY, PAGE
and RESTART. -/
def frameInstr (isSealed : Bool) (bs : List Byte) : Option Instr :=
  match bs with
  | [] => none
  | code :: _ =>
    if code = 0x01 then some .ident
    else if code = 0x02 then some .status
    else if code = 0x5E then some .seal
    else if code = 0x3C then some .restart
    else if code = 0x10 then
      if isSealed || 41 ≤ bs.length then some (.key (frameBytes 40 1 bs)) else none
    else if code = 0x20 then
      if isSealed || 130 ≤ bs.length then some (.page (bs.getD 1 0) (frameBytes 128 2 bs)) else none
    else some (.unknownInstruction code)

/-- R182: the instruction that the frame in progress has completed and not yet taken. -/
def portDue (s : State) : Option Instr :=
  if s.port.frame && !s.port.taken then frameInstr s.port.sealed s.port.bytes else none

/-- R182: the instruction whose last required byte has just been completed is taken. -/
def takeInstruction (s : State) : State :=
  match portDue s with
  | some .ident => identOp s
  | some .status => statusOp s
  | some .seal => sealOp s
  | some .restart => restartOp s
  | some (.key data) => keyOp data.toList s
  | some (.page number data) => pageOp number data.toList s
  | some (.unknownInstruction code) => unknownOp code s
  | _ => s

/-- R182: a rising edge of PCLK within a frame: one bit is taken, PDO gives the next one of the reply, or zeros after it, and an
instruction that the bit completes is taken at once. -/
def pclkOp (pdi : Bool) (s : State) : State :=
  if s.port.frame then
    let next := s.port.out.headD false
    takeInstruction ((s.modPort fun p => p.shift pdi).modLines fun l => { l with pdo := some next })
  else s

/-- R182: PSEL rises: the frame ends, incomplete bits are dropped and PDO is released. -/
def pselRiseOp (s : State) : State :=
  if s.port.frame then
    (s.modPort fun p => { p with frame := false, bits := [], bytes := [], taken := false, out := [] }).modLines fun l =>
      { l with pdo := none }
  else s

end Sys2Proof.Machine
end

