-- ==== Sys2Proof/Machine/Command.lean ====
section
/-! DEFINITION. What is common to all commands: the lines are those of this command alone, a part without supply takes nothing, and
what the command has made due within itself is concluded: requests ended at the end of the generations (R85), a cut that is asked
for (R15, R20), hold entry (R176), and a RESTART that has waited for the end of a host byte (R180). -/

namespace Sys2Proof.Machine

open Sys2Proof

/-- How many ended requests `finish` concludes at most; each place of the Code Decoder and the change of the account state can make
one more, so no command makes as many. -/
def endedFuel : Nat := 32

/-- The lines that belong to one command return to released. PDO follows PSEL and PCLK alone. -/
def clearLines (s : State) : State := s.modLines fun l => { Lines.released with pdo := l.pdo }

/-- What a command has made due within itself. -/
def finish (s : State) : State :=
  takeRestart (concludeEnded endedFuel (takeHold (concludeEnded endedFuel (takeCut (concludeEnded endedFuel s)))))

/-- A command that a powered part takes; without supply nothing happens. -/
def runCommand (f : State → State) (s : State) : Host.Outcome State Fault Refusal :=
  if s.sup.powered then .next (finish (f (clearLines s))) else .next s

end Sys2Proof.Machine
end

