-- ==== Sys2Proof/Machine/AccountStore.lean ====
section
/-! DEFINITION. The meanings of the commands of the Account Store (chapter 5). -/

namespace Sys2Proof.Machine

open Sys2Proof

/-- COMMIT_WRITE_DONE (R90, R93). -/
def execCommitWriteDone (r : WriteResult) (s : State) : Host.Outcome State Fault Refusal := runCommand (commitWriteDone r) s

/-- COMMIT_READBACK_DONE (R91 to R94). -/
def execCommitReadbackDone (r : ReadResult 64) (s : State) : Host.Outcome State Fault Refusal :=
  runCommand (commitReadbackDone r) s

/-- SLOT_SELECTION (R96, R97, R98). -/
def execSlotSelection (a : ReadResult 64) (b : Option (ReadResult 64)) (s : State) : Host.Outcome State Fault Refusal :=
  runCommand (slotSelection a b) s

/-- HOLD_EXIT_CHECK (R99). -/
def execHoldExitCheck (r : ReadResult 64) (s : State) : Host.Outcome State Fault Refusal := runCommand (holdExitCheck r) s

end Sys2Proof.Machine
end

