-- ==== Sys2Proof/Machine/EventLogCommands.lean ====
section
/-! DEFINITION. The meanings of the commands of the Log Writer (chapter 9). -/

namespace Sys2Proof.Machine

open Sys2Proof

/-- LOG_APPEND_WRITE_DONE (R170). -/
def execLogAppendWriteDone (r : WriteResult) (s : State) : Host.Outcome State Fault Refusal := runCommand (logAppendWriteDone r) s

/-- LOG_SLOT_READ_DONE (R172). -/
def execLogSlotReadDone (r : ReadResult 16) (s : State) : Host.Outcome State Fault Refusal := runCommand (logSlotRead r) s

end Sys2Proof.Machine
end

