-- ==== Sys2Proof/Machine/Jobs.lean ====
section
/-! DEFINITION. The meanings of the commands of the part's own jobs that no other family holds (chapter 1): the grant, the polls and
the end of the pointer restore. -/

namespace Sys2Proof.Machine

open Sys2Proof

/-- JOB_GRANT (R2, R3, R20). -/
def execJobGrant (s : State) : Host.Outcome State Fault Refusal := runCommand jobGrant s

/-- POLL_ACK (R14). -/
def execPollAck (s : State) : Host.Outcome State Fault Refusal := runCommand pollAck s

/-- POLL_TIMEOUT (R14). -/
def execPollTimeout (s : State) : Host.Outcome State Fault Refusal := runCommand jobFailed s

/-- POINTER_RESTORE_END (R13): the restore acknowledged, or not. -/
def execPointerRestoreEnd (ok : Bool) (s : State) : Host.Outcome State Fault Refusal := runCommand (pointerRestoreEnd ok) s

end Sys2Proof.Machine
end

