-- ==== Sys2Proof/Machine/MemoryPath.lean ====
section
/-! DEFINITION. The meanings of the commands on the upstream segment (chapter 1): address, word-address, data and foreign bytes, STOP, bus
errors and the hold limit. -/

namespace Sys2Proof.Machine

open Sys2Proof

/-- ADDRESS_BYTE (R1, R2, R4): the address byte after a START, or a repeated START while a host transaction is in progress. -/
def execAddressByte (select : BitVec 7) (dir : Dir) (ack : Bool) (s : State) : Host.Outcome State Fault Refusal :=
  runCommand (fun s => addressByteOp select dir ack (byteEnd s)) s

/-- FOREIGN_BYTE (R5). -/
def execForeignByte (byte : Byte) (ack : Bool) (s : State) : Host.Outcome State Fault Refusal :=
  runCommand (fun s => foreignByteOp byte ack (byteEnd s)) s

/-- WORD_ADDRESS_BYTE (R6, R13). -/
def execWordAddressByte (byte : Byte) (ack : Bool) (s : State) : Host.Outcome State Fault Refusal :=
  runCommand (fun s => wordAddressByteOp byte ack (byteEnd s)) s

/-- HOST_WRITE_DATA_BYTE (R7, R8, R9). -/
def execHostWriteDataByte (byte : Byte) (ack : Bool) (s : State) : Host.Outcome State Fault Refusal :=
  runCommand (fun s => hostWriteDataByteOp byte ack (byteEnd s)) s

/-- HOST_READ_DATA_BYTE (R10, R11). -/
def execHostReadDataByte (byte : Byte) (ack : Bool) (s : State) : Host.Outcome State Fault Refusal :=
  runCommand (fun s => hostReadDataByteOp byte ack (byteEnd s)) s

/-- HOST_STOP (R2, R8, R12, R16). -/
def execHostStop (s : State) : Host.Outcome State Fault Refusal := runCommand (fun s => hostStopOp (byteEnd s)) s

/-- BUS_ERROR (R17). -/
def execBusError (e : MidByteEdge) (s : State) : Host.Outcome State Fault Refusal :=
  runCommand (fun s => busErrorOp e (byteEnd s)) s

/-- HOLD_LIMIT_EXPIRY (R15): the cut follows at the byte boundary if a job waits. -/
def execHoldLimitExpiry (s : State) : Host.Outcome State Fault Refusal := runCommand holdLimitOp s

/-- CUT_STATE_BYTE (R16). -/
def execCutStateByte (dir : Dir) (s : State) : Host.Outcome State Fault Refusal :=
  runCommand (fun s => cutByteOp dir (byteEnd s)) s

/-- MEMORY_CLOCK_FAULT (R18). -/
def execMemoryClockFault (s : State) : Host.Outcome State Fault Refusal := runCommand memoryClockFault s

/-- MEMORY_CLOCK_SEEN_HIGH (R18). -/
def execMemoryClockSeenHigh (s : State) : Host.Outcome State Fault Refusal := runCommand owedStop s

end Sys2Proof.Machine
end

