-- ==== Sys2Proof/Machine/Metering.lean ====
section
/-! DEFINITION. The meanings of the commands of the Energy Engine (chapter 4) that are not the work of a block. -/

namespace Sys2Proof.Machine

open Sys2Proof

/-- SPEND_THRESHOLD (R70). -/
def execSpendThreshold (s : State) : Host.Outcome State Fault Refusal := runCommand spendThreshold s

/-- LIVE_POWER_UPDATE (R79). -/
def execLivePowerUpdate (s : State) : Host.Outcome State Fault Refusal := runCommand (fun s => s.modEng Engine.updatePower) s

end Sys2Proof.Machine
end

