-- ==== Sys2Proof/Machine/PortCommands.lean ====
section
/-! DEFINITION. The meanings of the commands of the Commissioning Port (chapter 11). -/

namespace Sys2Proof.Machine

open Sys2Proof

/-- PSEL_FALL (R182). -/
def execPselFall (s : State) : Host.Outcome State Fault Refusal := runCommand pselFallOp s

/-- PSEL_RISE (R182). -/
def execPselRise (s : State) : Host.Outcome State Fault Refusal := runCommand pselRiseOp s

/-- IDENT (R183). -/
def execIdent (s : State) : Host.Outcome State Fault Refusal := runCommand (portTake identOp) s

/-- STATUS (R183). -/
def execStatus (s : State) : Host.Outcome State Fault Refusal := runCommand (portTake statusOp) s

/-- KEY (R184, R187). -/
def execKey (data : Vector Byte 40) (s : State) : Host.Outcome State Fault Refusal := runCommand (portTake (keyOp data.toList)) s

/-- PAGE (R185, R187). -/
def execPage (number : Byte) (data : Vector Byte 128) (s : State) : Host.Outcome State Fault Refusal :=
  runCommand (portTake (pageOp number data.toList)) s

/-- SEAL (R186). -/
def execSeal (s : State) : Host.Outcome State Fault Refusal := runCommand (portTake sealOp) s

/-- RESTART (R180, R186, R187). -/
def execRestart (s : State) : Host.Outcome State Fault Refusal := runCommand (portTake restartOp) s

/-- UNKNOWN_INSTRUCTION (R182). -/
def execUnknownInstruction (code : Byte) (s : State) : Host.Outcome State Fault Refusal :=
  runCommand (portTake (unknownOp code)) s

/-- PAGE_WRITE_DONE (R185). -/
def execPageWriteDone (r : WriteResult) (s : State) : Host.Outcome State Fault Refusal := runCommand (pageWriteDone r) s

/-- PAGE_WRITE_RESULT (R185). -/
def execPageWriteResult (r : ReadResult 128) (s : State) : Host.Outcome State Fault Refusal := runCommand (pageWriteResult r) s

/-- PCLK_RISING_EDGE (R182). -/
def execPclkRisingEdge (pdi : Bool) (s : State) : Host.Outcome State Fault Refusal := runCommand (pclkOp pdi) s

end Sys2Proof.Machine
end

