-- ==== Sys2Proof/Machine/Power.lean ====
section
/-! DEFINITION. The meanings of the commands of the Supply Monitor (chapter 10). -/

namespace Sys2Proof.Machine

open Sys2Proof

/-- POWER_FAIL_WARNING (R174, R175, R179). -/
def execPowerFailWarning (s : State) : Host.Outcome State Fault Refusal := runCommand powerFailWarning s

/-- WARNING_CLEAR (R174, R178). -/
def execWarningClear (s : State) : Host.Outcome State Fault Refusal := runCommand warningClear s

/-- HOLD_ENTRY_TIMER_END (R176). -/
def execHoldEntryTimerEnd (s : State) : Host.Outcome State Fault Refusal := runCommand holdTimerEnd s

/-- SUPPLY_LOSS (R174). -/
def execSupplyLoss (s : State) : Host.Outcome State Fault Refusal := runCommand supplyLoss s

/-- COLD_START (R179): the one command that a part without supply takes. -/
def execColdStart (s : State) : Host.Outcome State Fault Refusal := .next (coldStart s)

end Sys2Proof.Machine
end

