-- ==== Sys2Proof/Machine/SamplingCommands.lean ====
section
/-! DEFINITION. The meanings of the commands of the Sampling Unit (chapter 3): lock, calibration, frames, captures, monitors, blocks and the
zero-crossing filter. -/

namespace Sys2Proof.Machine

open Sys2Proof

/-- LOOP_LOCK (R39). -/
def execLoopLock (s : State) : Host.Outcome State Fault Refusal := runCommand loopLock s

/-- LOSS_OF_LOCK (R40, R41). -/
def execLossOfLock (s : State) : Host.Outcome State Fault Refusal := runCommand lossOfLock s

/-- CALIBRATION_DONE (R41). -/
def execCalibrationDone (measured : BitVec 16) (s : State) : Host.Outcome State Fault Refusal :=
  runCommand (calibrationDone measured) s

/-- FRAME (R42, R43, R45, R47, R57). -/
def execFrame (v iL iN aux : BitVec 16) (s : State) : Host.Outcome State Fault Refusal := runCommand (takeFrame v iL iN aux) s

/-- CAPTURE_COMPLETE (R47, R136, R145). -/
def execCaptureComplete (s : State) : Host.Outcome State Fault Refusal := runCommand captureComplete s

/-- MONITOR_STATE_CHANGE (R48). -/
def execMonitorStateChange (m : Monitor) (s : State) : Host.Outcome State Fault Refusal := runCommand (monitorChange m) s

/-- BLOCK_END (R44, R58). -/
def execBlockEnd (s : State) : Host.Outcome State Fault Refusal := runCommand blockEnd s

/-- ZC_FILTER_SETTLE (R52). -/
def execZcFilterSettle (high : Bool) (s : State) : Host.Outcome State Fault Refusal := runCommand (zcSettle high) s

/-- RISING_CROSSING (R52, R53, R133). -/
def execRisingCrossing (s : State) : Host.Outcome State Fault Refusal := runCommand risingCrossing s

end Sys2Proof.Machine
end

