-- ==== Sys2Proof/Machine/SupplySwitch.lean ====
section
/-! DEFINITION. The meanings of the commands of the Switch Controller (chapter 7). -/

namespace Sys2Proof.Machine

open Sys2Proof

/-- BUTTON_FILTER_SETTLE (R130, R131). -/
def execButtonFilterSettle (pressed : Bool) (s : State) : Host.Outcome State Fault Refusal := runCommand (buttonSettle pressed) s

/-- CROSSING_WAIT_TIMEOUT (R133). -/
def execCrossingWaitTimeout (s : State) : Host.Outcome State Fault Refusal := runCommand crossingTimeout s

/-- ZERO_CROSS_DELAY_END (R134). -/
def execZeroCrossDelayEnd (s : State) : Host.Outcome State Fault Refusal := runCommand delayEnd s

/-- PULSE_END (R134, R135). -/
def execPulseEnd (s : State) : Host.Outcome State Fault Refusal := runCommand pulseEnd s

/-- SETTLE_TIME_END (R135). -/
def execSettleTimeEnd (s : State) : Host.Outcome State Fault Refusal := runCommand settleTimeEnd s

/-- CAPTURE_REQUEST_RETRY (R135, R145). -/
def execCaptureRequestRetry (s : State) : Host.Outcome State Fault Refusal := runCommand retryCapture s

/-- OPEN_RELAY_IL_RUN (R139). -/
def execOpenRelayIlRun (s : State) : Host.Outcome State Fault Refusal := runCommand openRelayRun s

/-- OVERLOAD_TRIP (R141). -/
def execOverloadTrip (s : State) : Host.Outcome State Fault Refusal := runCommand overloadTrip s

/-- LIMIT_DELAY_END (R142). -/
def execLimitDelayEnd (s : State) : Host.Outcome State Fault Refusal := runCommand limitDelayEnd s

/-- CLEAN_TIME_END (R142). -/
def execCleanTimeEnd (s : State) : Host.Outcome State Fault Refusal := runCommand cleanTimeEnd s

end Sys2Proof.Machine
end

