-- ==== Sys2Proof/Machine/TamperCommands.lean ====
section
/-! DEFINITION. The meanings of the commands of the Tamper Monitor (chapter 8). -/

namespace Sys2Proof.Machine

open Sys2Proof

/-- SWITCH_INPUT_FILTER_SETTLE (R151, R152). -/
def execSwitchInputFilterSettle (input : SwitchInput) (isOpen : Bool) (s : State) : Host.Outcome State Fault Refusal :=
  runCommand (inputSettle input isOpen) s

/-- IMBALANCE_CHANGE (R154). -/
def execImbalanceChange (s : State) : Host.Outcome State Fault Refusal := runCommand imbalanceChange s

/-- REVERSE_CHANGE (R155). -/
def execReverseChange (s : State) : Host.Outcome State Fault Refusal := runCommand reverseChange s

end Sys2Proof.Machine
end

