-- ==== Sys2Proof/Machine/Windows.lean ====
section
/-! DEFINITION. The meanings of the reads of pages 0 and 1 (chapter 2). -/

namespace Sys2Proof.Machine

open Sys2Proof

/-- PAGE0_READ_DONE (R22, R23, R24, R26). -/
def execPage0ReadDone (r : ReadResult 128) (s : State) : Host.Outcome State Fault Refusal := runCommand (page0Read r) s

/-- PAGE1_READ_DONE (R25, R26, R150). -/
def execPage1ReadDone (r : ReadResult 128) (s : State) : Host.Outcome State Fault Refusal := runCommand (page1Read r) s

end Sys2Proof.Machine
end

