-- ==== Sys2Proof/Machine/Dispatch.lean ====
section
/-! DEFINITION. The meaning of every command: one arm per row of the table. -/

namespace Sys2Proof.Machine

open Sys2Proof

/-- The effect of a command on everything but the queue. -/
def exec (i : Instr) (s : State) : Host.Outcome State Fault Refusal :=
  match i with
  | .addressByte select dir ack => Sys2Proof.Machine.execAddressByte select dir ack s
  | .foreignByte byte ack => Sys2Proof.Machine.execForeignByte byte ack s
  | .wordAddressByte byte ack => Sys2Proof.Machine.execWordAddressByte byte ack s
  | .hostWriteDataByte byte ack => Sys2Proof.Machine.execHostWriteDataByte byte ack s
  | .hostReadDataByte byte ack => Sys2Proof.Machine.execHostReadDataByte byte ack s
  | .hostStop => Sys2Proof.Machine.execHostStop s
  | .busError e => Sys2Proof.Machine.execBusError e s
  | .holdLimitExpiry => Sys2Proof.Machine.execHoldLimitExpiry s
  | .cutStateByte dir => Sys2Proof.Machine.execCutStateByte dir s
  | .memoryClockFault => Sys2Proof.Machine.execMemoryClockFault s
  | .jobGrant => Sys2Proof.Machine.execJobGrant s
  | .pollAck => Sys2Proof.Machine.execPollAck s
  | .pollTimeout => Sys2Proof.Machine.execPollTimeout s
  | .pointerRestoreEnd ok => Sys2Proof.Machine.execPointerRestoreEnd ok s
  | .page0ReadDone r => Sys2Proof.Machine.execPage0ReadDone r s
  | .page1ReadDone r => Sys2Proof.Machine.execPage1ReadDone r s
  | .loopLock => Sys2Proof.Machine.execLoopLock s
  | .lossOfLock => Sys2Proof.Machine.execLossOfLock s
  | .calibrationDone measured => Sys2Proof.Machine.execCalibrationDone measured s
  | .frame v iL iN aux => Sys2Proof.Machine.execFrame v iL iN aux s
  | .captureComplete => Sys2Proof.Machine.execCaptureComplete s
  | .monitorStateChange m => Sys2Proof.Machine.execMonitorStateChange m s
  | .blockEnd => Sys2Proof.Machine.execBlockEnd s
  | .zcFilterSettle high => Sys2Proof.Machine.execZcFilterSettle high s
  | .risingCrossing => Sys2Proof.Machine.execRisingCrossing s
  | .spendThreshold => Sys2Proof.Machine.execSpendThreshold s
  | .livePowerUpdate => Sys2Proof.Machine.execLivePowerUpdate s
  | .commitWriteDone r => Sys2Proof.Machine.execCommitWriteDone r s
  | .commitReadbackDone r => Sys2Proof.Machine.execCommitReadbackDone r s
  | .slotSelection a b => Sys2Proof.Machine.execSlotSelection a b s
  | .holdExitCheck r => Sys2Proof.Machine.execHoldExitCheck r s
  | .buttonFilterSettle pressed => Sys2Proof.Machine.execButtonFilterSettle pressed s
  | .crossingWaitTimeout => Sys2Proof.Machine.execCrossingWaitTimeout s
  | .zeroCrossDelayEnd => Sys2Proof.Machine.execZeroCrossDelayEnd s
  | .pulseEnd => Sys2Proof.Machine.execPulseEnd s
  | .settleTimeEnd => Sys2Proof.Machine.execSettleTimeEnd s
  | .captureRequestRetry => Sys2Proof.Machine.execCaptureRequestRetry s
  | .openRelayIlRun => Sys2Proof.Machine.execOpenRelayIlRun s
  | .overloadTrip => Sys2Proof.Machine.execOverloadTrip s
  | .limitDelayEnd => Sys2Proof.Machine.execLimitDelayEnd s
  | .cleanTimeEnd => Sys2Proof.Machine.execCleanTimeEnd s
  | .switchInputFilterSettle input isOpen => Sys2Proof.Machine.execSwitchInputFilterSettle input isOpen s
  | .imbalanceChange => Sys2Proof.Machine.execImbalanceChange s
  | .reverseChange => Sys2Proof.Machine.execReverseChange s
  | .logAppendWriteDone r => Sys2Proof.Machine.execLogAppendWriteDone r s
  | .logSlotReadDone r => Sys2Proof.Machine.execLogSlotReadDone r s
  | .powerFailWarning => Sys2Proof.Machine.execPowerFailWarning s
  | .warningClear => Sys2Proof.Machine.execWarningClear s
  | .holdEntryTimerEnd => Sys2Proof.Machine.execHoldEntryTimerEnd s
  | .supplyLoss => Sys2Proof.Machine.execSupplyLoss s
  | .coldStart => Sys2Proof.Machine.execColdStart s
  | .pselFall => Sys2Proof.Machine.execPselFall s
  | .pselRise => Sys2Proof.Machine.execPselRise s
  | .ident => Sys2Proof.Machine.execIdent s
  | .status => Sys2Proof.Machine.execStatus s
  | .key data => Sys2Proof.Machine.execKey data s
  | .page number data => Sys2Proof.Machine.execPage number data s
  | .seal => Sys2Proof.Machine.execSeal s
  | .restart => Sys2Proof.Machine.execRestart s
  | .unknownInstruction code => Sys2Proof.Machine.execUnknownInstruction code s
  | .pageWriteResult r => Sys2Proof.Machine.execPageWriteResult r s
  | .pclkRisingEdge pdi => Sys2Proof.Machine.execPclkRisingEdge pdi s
  | .pageWriteDone r => Sys2Proof.Machine.execPageWriteDone r s
  | .memoryClockSeenHigh => Sys2Proof.Machine.execMemoryClockSeenHigh s

end Sys2Proof.Machine
end

