-- ==== Sys2Proof/Machine/Due.lean ====
section
/-! DEFINITION. What time does (R38; log entry 3): the commands that the counts and timers have made due, and one crystal period, in
which the counts and timers move on. -/

namespace Sys2Proof.Machine

open Sys2Proof

/-! ## What is due -/

/-- `i`, when the condition holds. -/
def dueIf (c : Bool) (i : Instr) : List Instr := if c then [i] else []

/-- The stages in which the part polls after a write, or for attempt 2 (R14, R90). -/
def JobStage.polls : JobStage → Bool
  | .commitPrePoll => true
  | .commitPoll => true
  | .pagePoll => true
  | .logBodyPoll => true
  | .logNumberPoll => true
  | .readPage0 | .readPage1 | .readSlotA | .readSlotB | .readRing _ | .holdCheck | .commitWrite | .commitRead
  | .pageWrite | .pageRead | .logBody | .logNumber | .restore => false

/-- What is due on the memory path (R2, R14, R15, R18). -/
def duePath (s : State) : List Instr :=
  dueIf (s.path.stopOwed && s.pins.msclHigh) .memoryClockSeenHigh ++
  dueIf (s.path.cutAsked && !s.pins.midByte) .holdLimitExpiry ++
  dueIf (nextJob s).isSome .jobGrant ++
  dueIf (s.path.run.any fun r => r.stage.polls && ms 20 ≤ s.path.pollTime) .pollTimeout ++
  dueIf (s.clocking && ms 20 ≤ s.path.clockLowTime) .memoryClockFault

/-- What is due from the conversions (R44, R47, R48, R52, R53, R70, R79). -/
def dueSampling (s : State) : List Instr :=
  dueIf (s.smp.capture = .running && 64 ≤ s.smp.capCount) .captureComplete ++
  dueIf (s.smp.hall.due (Monitor.lengths .hall)) (.monitorStateChange .hall) ++
  dueIf (s.smp.temp.due (Monitor.lengths .temp)) (.monitorStateChange .temp) ++
  dueIf s.smp.blockDue .blockEnd ++
  dueIf (s.smp.loadv.due (Monitor.lengths .loadv)) (.monitorStateChange .loadv) ++
  dueIf (s.smp.zc = .low && 8 ≤ s.smp.zcCount) .risingCrossing ++
  dueIf (s.smp.zc = .high && 8 ≤ s.smp.zcCount) (.zcFilterSettle false) ++
  dueIf (s.smp.zc = .unsettled && 8 ≤ s.smp.zcCount) (.zcFilterSettle s.smp.zcLast) ++
  dueIf s.eng.spendDue .spendThreshold ++
  dueIf (50 ≤ s.eng.winCount) .livePowerUpdate

/-- What the step of an attempt makes due (R133, R134, R135). -/
def dueStep (s : State) : OpStep → List Instr
  | .crossingWait passed => dueIf (ms 40 ≤ passed) .crossingWaitTimeout
  | .delay left => dueIf (left = 0) .zeroCrossDelayEnd
  | .pulse left => dueIf (left = 0) .pulseEnd
  | .settle left => dueIf (left = 0) .settleTimeEnd
  | .capture => []
  | .retry => dueIf (captureAccepted s) .captureRequestRetry

/-- What is due at the switch (R130, R133 to R135, R139, R141, R142, R145). -/
def dueSwitch (s : State) : List Instr :=
  ((s.sw.op.map fun o => dueStep s o.step).getD []) ++
  dueIf (s.sw.check = .retry && captureAccepted s) .captureRequestRetry ++
  dueIf (250 ≤ s.sw.overRun) .overloadTrip ++
  dueIf (s.sw.openPeriod && 50 ≤ s.sw.ilRun && !s.sw.relayFound) .openRelayIlRun ++
  dueIf (s.sw.reasons.limit && s.sw.limitDelay = 0 && s.sup.phase != .held) .limitDelayEnd ++
  dueIf (s.sw.relay = .closed && 600 ≤ s.sw.clean && s.sw.retry != 0) .cleanTimeEnd ++
  dueIf (s.sw.buttonOn && ms 50 ≤ s.sw.buttonTime) (.buttonFilterSettle s.pins.button)

/-- What is due at the Tamper Monitor (R151, R154, R155). -/
def dueTamper (s : State) : List Instr :=
  dueIf (ms 20 ≤ s.tam.caseFilter.time) (.switchInputFilterSettle .caseSwitch s.pins.caseOpen) ++
  dueIf (ms 20 ≤ s.tam.coverFilter.time) (.switchInputFilterSettle .coverSwitch s.pins.coverOpen) ++
  dueIf (if s.tam.imbalance then 50 ≤ s.tam.imbAbsent else 50 ≤ s.tam.imbPresent) .imbalanceChange ++
  dueIf (if s.tam.reverse then 50 ≤ s.tam.revAbsent else 50 ≤ s.tam.revPresent) .reverseChange

/-- What is due at the Supply Monitor (R174, R176). The warning cannot clear before hold entry. -/
def dueSupply (s : State) : List Instr :=
  dueIf (!s.sup.raised && ms 1 ≤ s.sup.belowTime) .powerFailWarning ++
  dueIf (s.sup.raised && s.sup.phase != .warned && ms 100 ≤ s.sup.aboveTime) .warningClear ++
  dueIf (s.sup.phase = .warned && ms 40 ≤ s.sup.timer) .holdEntryTimerEnd

/-- The commands that are due. -/
def due (s : State) : List Instr :=
  duePath s ++ dueSampling s ++ dueSwitch s ++ dueTamper s ++ dueSupply s

/-- One of the commands that are due is taken next: the only one, or else one in an order that the manual leaves free, which
advances the counter (log entry 11). -/
def queueDue (is : List Instr) (s : State) : State :=
  match is with
  | [] => s
  | [i] => { s with pending := [i] }
  | i :: rest =>
    { s with pending := [(i :: rest).getD (Config.tiePlace s.free % (i :: rest).length) i], free := s.free + 1 }

/-! ## One crystal period (R38) -/

/-- A count of periods toward `top` while a level holds: it returns to 0 at a period in which the level is broken, and stops at
`top`. -/
def countHeld (level : Bool) (top n : Nat) : Nat := if level then min (n + 1) top else 0

/-- A count of periods that rises while it runs, and stops at `top`. -/
def countRun (runs : Bool) (top n : Nat) : Nat := if runs then min (n + 1) top else n

/-- R52, R130, R151: a filter's count of periods toward `top`, with the level of the period before: settled at a level, it counts the
opposite level and returns to 0 at its own; unsettled, it counts either level and restarts at 1 where the level changes. -/
def countLevel (settled : Option Bool) (last level : Bool) (top n : Nat) : Nat :=
  match settled with
  | some l => countHeld (l != level) top n
  | none => if last = level || n = 0 then min (n + 1) top else 1

/-- The Path Unit's timers (R14, R15, R18), and the end of a STOP that the part has issued within a host transaction. -/
def Path.tick (p : Path) (clocking clockHigh : Bool) : Path :=
  { p with
    holdTime := countRun (p.owner = .host) (ms 50) p.holdTime
    pollTime := countRun (p.run.any fun r => r.stage.polls) (ms 20) p.pollTime
    clockLowTime := countHeld (clocking && !clockHigh) (ms 20) p.clockLowTime
    stopping := p.stopping && !clockHigh }

/-- R52: the level at which the zero-crossing filter is settled. -/
def ZcFilter.settled : ZcFilter → Option Bool
  | .unsettled => none
  | .low => some false
  | .high => some true

/-- R52: one period of the zero-crossing filter. A count that has reached 8 waits there for its command. -/
def Sampling.zcTick (m : Sampling) (high : Bool) : Sampling :=
  if m.loop = .locked then
    { m with zcLast := high, zcCount := countLevel m.zc.settled m.zcLast high 8 m.zcCount }
  else m

/-- The Sampling Unit's counts: the filter and the calibration (R41, R52). -/
def Sampling.tick (m : Sampling) (high : Bool) : Sampling :=
  { m.zcTick high with calTime := countRun (m.conv = .calibrating) (ms 10) m.calTime }

/-- The step of an attempt, with its time (R133 to R135). -/
def OpStep.tick (step : OpStep) : OpStep :=
  match step with
  | .crossingWait passed => .crossingWait (countRun true (ms 40) passed)
  | .delay left => .delay (left - 1)
  | .pulse left => .pulse (left - 1)
  | .settle left => .settle (left - 1)
  | .capture => .capture
  | .retry => .retry

/-- R130: the level, pressed or not, at which the button filter is settled. -/
def ButtonFilter.settled : ButtonFilter → Option Bool
  | .unsettled => none
  | .released => some false
  | .pressed => some true

/-- R130: one period of the button filter, while it runs. -/
def Switch.buttonTick (w : Switch) (pressed : Bool) : Switch :=
  { w with
    buttonTime := if w.buttonOn then countLevel w.button.settled w.buttonLast pressed (ms 50) w.buttonTime else 0
    buttonLast := pressed }

/-- The Switch Controller's times (R130, R133 to R135, R142). -/
def Switch.tick (w : Switch) (secEnd pressed inRun : Bool) : Switch :=
  { w.buttonTick pressed with
    op := w.op.map fun o => { o with step := o.step.tick }
    limitDelay := if secEnd && inRun then w.limitDelay - 1 else w.limitDelay
    clean := if secEnd && inRun && w.relay = .closed then min (w.clean + 1) 600 else w.clean }

/-- R151: the level, open or not, at which a switch filter is settled. -/
def InputFilter.settled : InputFilter → Option Bool
  | .unsettled => none
  | .intact => some false
  | .opened => some true

/-- R151: one period of a switch filter. -/
def InputFilterState.tick (f : InputFilterState) (isOpen : Bool) : InputFilterState :=
  { f with time := countLevel f.state.settled f.last isOpen (ms 20) f.time, last := isOpen }

/-- The Tamper Monitor's filters (R151). -/
def Tamper.tick (t : Tamper) (caseOpen coverOpen : Bool) : Tamper :=
  { t with caseFilter := t.caseFilter.tick caseOpen, coverFilter := t.coverFilter.tick coverOpen }

/-- R174, R176: the comparator filter and the hold-entry timer. -/
def Supply.tick (p : Supply) (above : Bool) : Supply :=
  { p with
    belowTime := countHeld (!p.raised && !above) (ms 1) p.belowTime
    aboveTime := countHeld (p.raised && above) (ms 100) p.aboveTime
    timer := countRun (p.phase = .warned) (ms 40) p.timer
    subSec := (p.subSec + 1) % 32768 }

/-- One crystal period. The second tick comes at the last period of a second (R38, R142). -/
def tick (s : State) : State :=
  { s with
    path := s.path.tick s.clocking s.pins.msclHigh
    smp := s.smp.tick s.pins.vHigh
    sw := s.sw.tick (s.sup.subSec = 32767) s.pins.button (s.sup.phase != .held)
    tam := s.tam.tick s.pins.caseOpen s.pins.coverOpen
    sup := s.sup.tick s.pins.railAbove }

/-- What a step does on an empty queue: a part without supply stands still; what is due is queued; otherwise a crystal period
passes. -/
def idle (s : State) : State :=
  if !s.sup.powered then s
  else match due s with
    | [] => tick s
    | i :: rest => queueDue (i :: rest) s

end Sys2Proof.Machine
end

