-- ==== Sys2Proof/Safety.lean ====
section
/-! DEFINITION. What a safe run keeps, in the terms the statements use: the bounds of the lists and counts that the manual gives, the
single owner of the memory segment, the isolation and the rest of HOLD, the one-shot latches; and the states in which nothing is
owed between two commands. -/

namespace Sys2Proof.Machine

open Sys2Proof

/-- Between two commands nothing is owed: the part has supply, no request ended at the end of the generations waits to be concluded
(R85), no hold entry (R176), no cut (R15, R20) and no RESTART (R180) is due. -/
structure State.Quiet (s : State) : Prop where
  powered : s.sup.powered = true
  ended : s.sto.ended = []
  holdDue : s.sup.holdDue = false
  restartDue : s.sup.restartDue = false
  cutPending : s.path.cutPending = false
  holdLimit : s.path.owner = .host → s.path.jobs = [] ∨ s.path.holdTime < ms 50

/-- Beside that, no job that joins the waiting list cuts the host's transaction at once (R15), and a commit request is not ended at
the end of the generations (R85). -/
structure State.Settled (s : State) : Prop extends s.Quiet where
  limit : s.path.owner = .host → s.path.holdTime < ms 50
  generation : s.sto.generationEnded = false

/-- The lines after a command that shows the host this acknowledge and this byte and puts these on the memory segment. PDO follows
PSEL and PCLK alone. -/
def State.said (s : State) (ack : Option Bool) (byte : Option Byte) (seg : List SegAct) : Lines where
  hostAck := ack
  hostByte := byte
  seg := seg
  pdo := s.lines.pdo

/-- The input lines at the end of a host byte, the upstream segment between bytes. -/
def State.byteOver (s : State) : Pins := { s.pins with midByte := false, carried := none }

/-- R103: the end of the host transaction ends no submission: it is no INBOX write, or its submission was refused or dropped. -/
def State.EndsNoSubmission (s : State) : Prop := s.path.window = some .inbox → s.dec.filling = none

/-- R102: the refusal of later bytes ends with its INBOX write. -/
def State.decAtEnd (s : State) : Decoder :=
  if s.path.window = some .inbox then { s.dec with refused := false } else s.dec

/-- R16: the cut finds a read whose last byte, or whose address byte, was acknowledged, so one more byte is clocked; none after a repeated
START that the part itself refused (log entry 51). -/
def Path.clocksAtCut (p : Path) : Bool :=
  match p.phase with
  | .reading .unread | .reading .acked | .foreignRead .unread | .foreignRead .acked => true
  | _ => false

/-- R16: the mirror pointer after a cut. -/
def Path.cutMirror (p : Path) : Option Addr :=
  match p.phase with
  | .reading .unread | .reading .acked => p.mirror.map fun a => advanceRead a 1
  | _ => p.endMirror

/-- R33, R35: no snapshot of a view is held. -/
def WindowMap.noSnapshots (w : WindowMap) : WindowMap := { w with liveSnap := none, outcomeSnap := none }

/-- The STOP that ends the host's transaction on the memory segment, where it is still open. -/
def Path.openStop (p : Path) : List SegAct := if p.segOpen then [.stop] else []

/-- R2, R12: the Path Unit when the owner has left HOST at the end of a transaction, with the mirror pointer it then holds. -/
def Path.hostGone (p : Path) (phase : UpPhase) (mirror : Option Addr) : Path :=
  { p with
    owner := .free
    phase := phase
    window := none
    segOpen := false
    stopping := false
    mirror := mirror
    hostPtr := if p.memClass then mirror else p.hostPtr
    memClass := false
    cutPending := false
    holdTime := 0 }

/-- R1, R14: a transaction of a job, with 1010 and the exact sampled straps as its select. -/
def State.own (s : State) (act : OwnAct) : SegAct := .own (0b1010#4 ++ s.path.strap) act

/-- R18: what goes onto the memory segment before all else where the STOP of a clock fault is owed: that STOP, and what a job has begun
behind it. -/
def Path.owed (p : Path) : List SegAct := if p.stopOwed then .stop :: p.behind else []

/-- R18: the Path Unit once the STOP owed has been issued. -/
def Path.stopped (p : Path) : Path := if p.stopOwed then { p with stopOwed := false, behind := [] } else p

/-- No count and no frame has made a command due that is not taken yet: what FRAME, LOSS_OF_LOCK and hold entry would take first (log
entry 8). -/
structure State.CaughtUp (s : State) : Prop where
  capture : s.smp.capture = .running → s.smp.capCount < 64
  hall : s.smp.hall.due (3, 48) = false
  temp : s.smp.temp.due (8, 8) = false
  loadv : s.smp.loadv.due (5, 5) = false
  block : s.smp.blockDue = false
  window : s.eng.winCount < 50
  spend : s.eng.spendDue = false
  overload : s.sw.overRun < 250
  openRun : s.sw.openPeriod = true → s.sw.relayFound = false → s.sw.ilRun < 50
  imbalance : if s.tam.imbalance then s.tam.imbAbsent < 50 else s.tam.imbPresent < 50
  reverse : if s.tam.reverse then s.tam.revAbsent < 50 else s.tam.revPresent < 50

/-- R165, R166: an event raised now is logged: recovery has ended, there is a ring, and the queue has room. -/
structure State.LogsEvents (s : State) : Prop where
  recovered : s.log.recovering = false
  ring : s.log.ring.isSome = true
  room : s.log.queue.length < 8

/-- R132: the record of a relay operation that has just started. -/
def startedOp (reason : Option Reason) : Operation where
  attempt := 1
  step := .crossingWait 0
  unsync := false
  reason := reason

/-- R86, R87: with an account, a request of rank `n` or a better one waits. -/
def State.Owes (s : State) (n : Nat) : Prop := s.sto.state = .noAccount ∨ ∃ w, s.sto.waiting = some w ∧ w.rank ≤ n

/-- R149, R150, R162: what a condition that becomes present, or absent, does beside its own state: to its latch once the latches are
loaded, and to nothing before. One that moves its latch as the grant of a commit job is due has a further commit follow (log entry 34). -/
structure ConditionTaken (s t : State) (k : TamperKind) (present : Bool) : Prop where
  waits : s.tam.loaded = false → t.tam.latches = s.tam.latches ∧ t.log = s.log ∧ t.sw = s.sw ∧ t.sto = s.sto
  latch : s.tam.loaded = true → t.tam.latches.get k =
    (if present then .active else if s.tam.latches.get k = .active then .held else s.tam.latches.get k)
  others : ∀ j ∈ tamperKinds, j ≠ k → j ≠ .bypass → t.tam.latches.get j = s.tam.latches.get j
  silent : present = false ∨ s.tam.latches.get k = .active → t.log = s.log ∧ t.sw = s.sw ∧ t.sto = s.sto
  event : s.tam.loaded = true → present = true → s.tam.latches.get k ≠ .active → s.LogsEvents →
    t.log.queue = s.log.queue ++ [eventRec .tamperSet k.num s.log.nextNo s]
  trips : s.tam.loaded = true → present = true → s.tam.latches.get k ≠ .active → named s.win.cal.tripMask k = true →
    s.tam.tripReported = false → s.sw.awaitRecord = false → t.sw.reasons.tamper = true
  request : s.tam.loaded = true → present = true → s.tam.latches.get k ≠ .active → t.Owes 5
  further : t.sto.further = true ↔ s.sto.further = true ∨ (s.tam.loaded = true ∧ present = true ∧
    s.tam.latches.get k ≠ .active ∧ (nextJob s = some .commit ∨ nextJob s = some .urgentCommit))

/-- R149, R150: what a one-shot finding does to its latch, or to the waiting findings before the latches are loaded. -/
def FindingTaken (s t : State) (latch : Latches → Latch) (waits : Findings → Bool) : Prop :=
  (s.tam.loaded = true → latch t.tam.latches = if latch s.tam.latches = .clear then .held else latch s.tam.latches) ∧
  (s.tam.loaded = false → waits t.tam.waiting = true)

/-- R144, R146, R148, R150: a cold start whose page 0 was valid and whose record has not come yet: the latches are not loaded, the Switch
Controller holds the holdback and that one report, and no overload run has come to its end. -/
structure State.AwaitsRecord (s : State) : Prop where
  await : s.sw.awaitRecord = true
  loaded : s.tam.loaded = false
  holdback : s.sw.held = true
  overload : s.sw.overRun < 250
  reports : s.sw.heldReports = [.unconfigured false]
  rateUnset : s.sw.rateUnset = true

/-- R150: what the loading of a record's latches leaves, `failed` being whether the loading itself has found the memory to fail: ACTIVE is
taken as HELD, a present CASE or COVER condition makes its latch ACTIVE, and a waiting finding takes a CLEAR latch to HELD. -/
structure State.LoadsLatches (s t : State) (l : Latches) (failed : Bool) : Prop where
  latches : ∀ k ∈ tamperKinds, t.tam.latches.get k =
    if (k = .caseOpen ∧ s.tam.caseCond = true) ∨ (k = .cover ∧ s.tam.coverCond = true) then .active
    else if l.get k ≠ .clear then .held
    else if (k = .relay ∧ s.tam.waiting.relay = true) ∨ (k = .port ∧ s.tam.waiting.port = true) ∨
        (k = .memory ∧ (s.tam.waiting.memory = true ∨ failed = true)) ∨ (k = .path ∧ s.tam.waiting.path = true) then .held
    else .clear
  trip : t.tam.tripReported = tamperKinds.any fun k => named s.win.cal.tripMask k && t.tam.latches.get k != .clear

/-- R144: what the Switch Controller holds once it has taken a record's relay state, arming, retry stage and reasons, and the start-up
reports after them. A reason that enters disarms (R127); the last one to leave an OPEN relay arms, unless it is one that recloses by
itself (R128): THERMAL, whose report comes last (log entry 17). -/
structure State.LoadsSwitch (s t : State) (isClosed isArmed : Bool) (stage : Nat) (set : Reasons) : Prop where
  relay : t.sw.relay = if isClosed then .closed else .opened
  operation : t.sw.op = s.sw.op
  retry : t.sw.retry = stage
  limitDelay : t.sw.limitDelay = if set.limit = false then 0 else if stage = 0 then 30 else if stage = 1 then 60
    else if stage = 2 then 120 else if stage = 3 then 240 else 480
  reasons : t.sw.reasons = {
    credit := decide (t.eng.credit ≤ if t.eng.ec = .available then 0 else -(t.eng.allow : Int))
    limit := set.limit
    tamper := t.tam.tripReported
    thermal := false
    store := false
    unset := decide (t.eng.rate = 0) }
  armed : t.sw.armed =
    if (t.sw.reasons.credit && !set.credit) || (t.sw.reasons.tamper && !set.tamper) ||
        (t.sw.reasons.unset && !set.unset) then false
    else if t.sw.reasons.isEmpty && !set.isEmpty && !isClosed && !set.thermal then true
    else isArmed

/-- R144, R150: what the loading of a record leaves, whichever record it is: the owners hold it, and no report and no finding waits. -/
structure State.HoldsRecord (t : State) : Prop where
  account : t.eng.account = true
  taken : t.sw.awaitRecord = false
  reports : t.sw.heldReports = []

/-- R96, R98: what the loading of a slot's record leaves with the owners of its fields. -/
structure State.LoadsSlot (s t : State) (slot : Slot) (r : Record) (failed : Bool) : Prop where
  store : t.sto.state = .loaded ∧ t.sto.slot = some slot ∧ t.sto.high = r.high ∧ t.sto.used = r.used
  energy : t.eng.fine = r.fine ∧ t.eng.cumulative = r.cumulative ∧ t.eng.limit = r.limit
  credit : t.eng.credit = r.credit ∧ t.eng.shortfall = r.shortfall ∧ t.eng.charge = r.charge
  rate : t.eng.rate = r.rate ∧ t.eng.pendingRate = r.pendingRate
  emergency : t.eng.ec = r.ec ∧ t.eng.allow = r.allow ∧ t.eng.pendingAllow = r.pendingAllow
  front : t.log.appendNo = r.appendNo ∧ ∀ ring, s.log.ring = some ring → t.log.head = r.head % (8 * ring.pages)
  latches : s.tam.loaded = false → s.LoadsLatches t r.latches failed
  switch : s.AwaitsRecord → s.LoadsSwitch t r.relayClosed r.armed r.retry r.reasons

/-- R97, R98: what the rebuild of a VOID account leaves with the owners of its fields. After the reports that follow, the set of reasons
holds CREDIT too, C being 0, and TAMPER where the trip mask names a latch that is set. -/
structure State.LoadsVoid (s t : State) (failed : Bool) : Prop where
  store : t.sto.state = .void ∧ t.sto.slot = none ∧ t.sto.high = 0 ∧ t.sto.used = 0
  generation : t.sto.verified.map generationOf = some 0
  energy : t.eng.fine = 0 ∧ t.eng.cumulative = 0 ∧ t.eng.limit = 0
  credit : t.eng.credit = 0 ∧ t.eng.shortfall = 0 ∧ t.eng.charge = 0
  rate : t.eng.rate = 0 ∧ t.eng.pendingRate = none
  emergency : t.eng.ec = .available ∧ t.eng.allow = 0 ∧ t.eng.pendingAllow = none
  front : t.log.appendNo = 0 ∧ t.log.head = 0
  memory : t.tam.latches.memory = .held
  latches : s.tam.loaded = false → s.LoadsLatches t { Latches.cold with memory := .held } failed
  switch : s.AwaitsRecord → s.LoadsSwitch t false false 0 { Reasons.cold with unset := true } ∧
    t.sw.relay = .opened ∧ t.sw.armed = false ∧ t.sw.retry = 0 ∧
    t.sw.reasons = { Reasons.cold with unset := true, credit := true, tamper := t.tam.tripReported }
  request : t.Owes 3
  event : s.tam.loaded = false → s.log.recovering = true → s.log.queue.length < 8 →
    (s.log.queue ++ [eventRec .accountVoid 0 0 s]) <+: t.log.queue

/-- R112, R113: sequence number `n` is in the used-set that the map and the high mark hold: entry i of the map stands for H - i. -/
def inUsedSet (high : Nat) (used : BitVec 64) (n : Nat) : Prop := n ≤ high ∧ high < n + 64 ∧ used.getLsbD (high - n) = true

/-- R83: the quantities that the record's fields can hold, beside the checks of R84. -/
structure Record.Fits (r : Record) : Prop where
  generation : 1 ≤ r.generation ∧ r.generation < 2 ^ 32
  shortfall : r.shortfall < 2 ^ 32
  fine : r.fine < 2 ^ 48
  cumulative : r.cumulative < 2 ^ 48
  head : r.head < 512
  pendingRate : r.pendingRate ≠ some 0
  quantities : r.inRange = true
  history : usedWellFormed r.high r.used = true

/-- R108: the ranges of a key's fields. -/
structure Key.WellFormed (k : Key) : Prop where
  map : k.map.Perm (List.range' 1 18)
  mask : k.mask.length = 18 ∧ ∀ m ∈ k.mask, m ≤ 9
  a : 1 ≤ k.a ∧ k.a ≤ 9972
  b : k.b ≤ 9972

/-- 18 decimal digits. -/
def isCode (t : List Nat) : Prop := t.length = 18 ∧ ∀ d ∈ t, d ≤ 9

/-- R3: the waiting list with a job asked for: each kind waits once. -/
def Path.withJob (p : Path) (k : JobKind) : List JobKind := if k ∈ p.jobs then p.jobs else p.jobs ++ [k]

/-- R100, R104, R164: at most 8 records in the queue, a count up to 65,535, at most 4 outcomes and at most two submissions. -/
structure State.Bounded (s : State) : Prop where
  queue : s.log.queue.length ≤ 8
  lost : s.log.lost ≤ 65535
  outcomes : s.dec.outcomes.length ≤ 4
  places : s.dec.places.length ≤ 2

/-- R55: the quantities of the account that have a range of their own, with the values that a code's change may bring to them: one that
the Account Store holds, or carries on the snapshot, is of its kind's range (R114). -/
structure State.AccountInRange (s : State) : Prop where
  credit : s.eng.credit ≤ 999999999
  shortfall : s.eng.shortfall ≤ 4294967295
  fine : s.eng.fine < 2 ^ 48
  cumulative : s.eng.cumulative < 2 ^ 48
  charge : s.eng.charge < 1000000
  spend : s.eng.spend ≤ 4294967295
  floor : s.eng.floor ≤ s.eng.credit
  rate : s.eng.rate ≤ 99999999
  pendingRate : ∀ r, s.eng.pendingRate = some r → 1 ≤ r ∧ r ≤ 99999999
  limit : s.eng.limit ≤ 65000
  pendingLimit : ∀ l, s.eng.pendingLimit = some l → l ≤ 65000
  allow : s.eng.allow ≤ 10000000
  pendingAllow : ∀ a, s.eng.pendingAllow = some a → a ≤ 10000000
  held : ∀ c, s.sto.held = some c → c.kind.valueOk c.value = true
  carried : ∀ c, s.sto.carried = some c → c.kind.valueOk c.value = true

/-- R124, R148: the counts of the switch and of the tamper runs. -/
structure State.CountsInRange (s : State) : Prop where
  overRun : s.sw.overRun ≤ 250
  retry : s.sw.retry ≤ 4
  clean : s.sw.clean ≤ 600
  ilRun : s.sw.ilRun ≤ 50
  imbPresent : s.tam.imbPresent ≤ 50
  imbAbsent : s.tam.imbAbsent ≤ 50
  revPresent : s.tam.revPresent ≤ 50
  revAbsent : s.tam.revAbsent ≤ 50

/-- R2, R3, R18: the segment is OWN just while a job holds it, a transaction of the host is open on it, or ended there by the part, only
while it is HOST, only a job has anything waiting behind a STOP that is owed, and each kind of job waits at most once. -/
structure State.OneOwner (s : State) : Prop where
  own : s.path.owner = .own ↔ s.path.run.isSome = true
  host : s.path.segOpen = true ∨ s.path.stopping = true → s.path.owner = .host
  behind : s.path.behind ≠ [] → s.path.owner = .own ∧ s.path.stopOwed = true
  jobs : s.path.jobs.Nodup

/-- R19: the isolation cause of each phase but RUNNING. -/
def Path.hasCause (p : Path) : Phase → Bool
  | .starting => p.causeStartUp
  | .running => true
  | .warned | .held | .resuming => p.causePower

/-- R19, R20, R54, R146, R176, R177: the part is isolated in every phase but RUNNING; the warning stands RAISED from WARNED into HOLD; in
HOLD the segment is FREE, the loop is stopped, no capture and no operation is in progress, and LOWCR is inactive. -/
structure State.RestsInHold (s : State) : Prop where
  cause : s.path.hasCause s.sup.phase = true
  warning : s.sup.phase = .warned ∨ s.sup.phase = .held → s.sup.raised = true
  segment : s.sup.phase = .held → s.path.owner = .free
  loop : s.sup.phase = .held → s.smp.loop = .stopped
  capture : s.sup.phase = .held → s.smp.capture = .idle
  holdback : s.sup.phase = .held → s.sw.held = true
  operation : s.sup.phase = .held → s.sw.op = none
  lowcr : s.sup.phase = .held → s.sw.lowcr = false

/-- R149: the one-shot kinds are never ACTIVE. -/
structure State.OneShotNeverActive (s : State) : Prop where
  relay : s.tam.latches.relay ≠ .active
  port : s.tam.latches.port ≠ .active
  memory : s.tam.latches.memory ≠ .active
  path : s.tam.latches.path ≠ .active

/-- The step answers a next state, neither a fault nor a refusal: what it is for a run to be safe in this model. -/
def State.steps (s : State) : Prop := ∃ t, step s = .next t

end Sys2Proof.Machine
end

