-- ==== Sys2Proof/Certificates/Slice0/Obligations.lean ====
section
/-! DEFINITION. The statements for the provers, chapter by chapter. Each says what a command or a shared rule of the part does, in the
terms of `Sys2Proof.Safety`; what it does not name in a next state it leaves as it was. -/

open Sys2Proof Sys2Proof.Machine

/-! ## The queue -/

/-- A step at a non-empty queue runs the command at its front with the rest of the queue. -/
def Obligations.StepRunsFrontCommand : Prop :=
  ∀ (c : Instr) (rest : List Instr) (s : State),
    step { s with pending := c :: rest } = exec c { s with pending := rest }

/-- Every command is taken in every state, neither faulting nor refused, and leaves the queue alone. That is the model's choice: log entry
1 for a command whose event the state excludes, log entry 20 for a part without supply. -/
def Obligations.EveryCommandIsTaken : Prop :=
  ∀ (c : Instr) (s : State), ∃ t, exec c s = .next t ∧ t.pending = s.pending

/-- R173, R174, R179 (log entry 20): a part without supply takes only COLD_START, and a step on its empty queue changes nothing. Log
entry 3 (DESIGN CHOICE): on an empty queue a part with supply queues one command that time has made due, whichever of several; with
none due one crystal period passes, which answers a next state and queues nothing. A time of n ms is the least number of periods of
32,768 Hz that completes it. What a period counts: the hold limit while the owner is HOST (R15), a poll (R14), but only after a write
or before attempt 2, not at a job's first select or its restore (log entry 23, DESIGN CHOICE), the memory clock not seen high (R18;
log entry 38, DESIGN CHOICE), the filters of the zero crossing (R52), the button (R130) and the inputs (R151), the times of an attempt
(R133 to R135), seconds (R142), the comparator and the hold-entry timer (R174, R176). Which count makes which command due: 50 ms the
hold limit, 20 ms the poll at those stages, the clock fault and an input's filter, 8 periods the zero crossing, 50 ms the button, 40
ms the crossing wait and the hold entry, 1 ms the warning and 100 ms its clearing, 600 s the clean time, and a time of an attempt or
LIMIT when it has run down. That the part is still clocking the STOP of an INBOX or guarded write's first byte until the clock is seen
high, and that a STOP owed makes MEMORY_CLOCK_SEEN_HIGH due then, is log entry 35 (DESIGN CHOICE). -/
def Obligations.TimePassesOnEmptyQueue : Prop :=
  (∀ n : Nat, 32768 * n ≤ 1000 * ms n ∧ 1000 * ms n < 32768 * n + 1000) ∧
  ∀ (s : State) (level : Bool),
    let polls := s.path.run.any fun r => [.commitPrePoll, .commitPoll, .pagePoll, .logBodyPoll, .logNumberPoll].contains r.stage
    let up := fun (n top : Nat) => if n + 1 ≤ top then n + 1 else top
    let filter := fun (settled : Option Bool) (last now : Bool) (top n : Nat) => match settled with
      | some l => if now = l then 0 else up n top
      | none => if now = last ∨ n = 0 then up n top else 1
    let secondEnds := s.sup.subSec = 32767 ∧ s.sup.phase ≠ .held
    let input := fun (f : InputFilterState) (isOpen : Bool) => { f with
      time := filter (match f.state with | .unsettled => none | .intact => some false | .opened => some true) f.last isOpen (ms 20) f.time
      last := isOpen }
    tick s = { s with
      path := { s.path with
        holdTime := if s.path.owner = .host then up s.path.holdTime (ms 50) else s.path.holdTime
        pollTime := if polls then up s.path.pollTime (ms 20) else s.path.pollTime
        clockLowTime := if s.clocking = true ∧ s.pins.msclHigh = false then up s.path.clockLowTime (ms 20) else 0
        stopping := s.path.stopping && !s.pins.msclHigh }
      smp := { s.smp with
        zcLast := if s.smp.loop = .locked then s.pins.vHigh else s.smp.zcLast
        zcCount := if s.smp.loop = .locked then
            filter (match s.smp.zc with | .unsettled => none | .low => some false | .high => some true)
              s.smp.zcLast s.pins.vHigh 8 s.smp.zcCount
          else s.smp.zcCount
        calTime := if s.smp.conv = .calibrating then up s.smp.calTime (ms 10) else s.smp.calTime }
      sw := { s.sw with
        buttonTime := if s.sw.buttonOn then
            filter (match s.sw.button with | .unsettled => none | .released => some false | .pressed => some true)
              s.sw.buttonLast s.pins.button (ms 50) s.sw.buttonTime
          else 0
        buttonLast := s.pins.button
        op := s.sw.op.map fun o => { o with step := match o.step with
          | .crossingWait passed => .crossingWait (up passed (ms 40))
          | .delay left => .delay (left - 1)
          | .pulse left => .pulse (left - 1)
          | .settle left => .settle (left - 1)
          | .capture => .capture
          | .retry => .retry }
        limitDelay := if secondEnds then s.sw.limitDelay - 1 else s.sw.limitDelay
        clean := if secondEnds ∧ s.sw.relay = .closed then up s.sw.clean 600 else s.sw.clean }
      tam := { s.tam with
        caseFilter := input s.tam.caseFilter s.pins.caseOpen
        coverFilter := input s.tam.coverFilter s.pins.coverOpen }
      sup := { s.sup with
        belowTime := if s.sup.raised = false ∧ s.pins.railAbove = false then up s.sup.belowTime (ms 1) else 0
        aboveTime := if s.sup.raised = true ∧ s.pins.railAbove = true then up s.sup.aboveTime (ms 100) else 0
        timer := if s.sup.phase = .warned then up s.sup.timer (ms 40) else s.sup.timer
        subSec := (s.sup.subSec + 1) % 32768 } } ∧
    (.holdLimitExpiry ∈ due s ↔ s.path.owner = .host ∧ s.pins.midByte = false ∧
      (s.path.cutPending = true ∨ (ms 50 ≤ s.path.holdTime ∧ s.path.jobs ≠ []))) ∧
    (.pollTimeout ∈ due s ↔ polls = true ∧ ms 20 ≤ s.path.pollTime) ∧
    (.memoryClockFault ∈ due s ↔ s.clocking = true ∧ ms 20 ≤ s.path.clockLowTime) ∧
    (.memoryClockSeenHigh ∈ due s ↔ s.path.stopOwed = true ∧ s.pins.msclHigh = true) ∧
    (.risingCrossing ∈ due s ↔ s.smp.zc = .low ∧ 8 ≤ s.smp.zcCount) ∧
    (.zcFilterSettle level ∈ due s ↔ 8 ≤ s.smp.zcCount ∧
      ((s.smp.zc = .high ∧ level = false) ∨ (s.smp.zc = .unsettled ∧ level = s.smp.zcLast))) ∧
    (.buttonFilterSettle level ∈ due s ↔ s.sw.buttonOn = true ∧ ms 50 ≤ s.sw.buttonTime ∧ level = s.pins.button) ∧
    (.crossingWaitTimeout ∈ due s ↔ ∃ o, s.sw.op = some o ∧ ∃ n, o.step = .crossingWait n ∧ ms 40 ≤ n) ∧
    (.zeroCrossDelayEnd ∈ due s ↔ ∃ o, s.sw.op = some o ∧ o.step = .delay 0) ∧
    (.pulseEnd ∈ due s ↔ ∃ o, s.sw.op = some o ∧ o.step = .pulse 0) ∧
    (.settleTimeEnd ∈ due s ↔ ∃ o, s.sw.op = some o ∧ o.step = .settle 0) ∧
    (.limitDelayEnd ∈ due s ↔ s.sw.reasons.limit = true ∧ s.sw.limitDelay = 0 ∧ s.sup.phase ≠ .held) ∧
    (.cleanTimeEnd ∈ due s ↔ s.sw.relay = .closed ∧ 600 ≤ s.sw.clean ∧ s.sw.retry ≠ 0) ∧
    (.switchInputFilterSettle .caseSwitch level ∈ due s ↔ ms 20 ≤ s.tam.caseFilter.time ∧ level = s.pins.caseOpen) ∧
    (.switchInputFilterSettle .coverSwitch level ∈ due s ↔ ms 20 ≤ s.tam.coverFilter.time ∧ level = s.pins.coverOpen) ∧
    (.powerFailWarning ∈ due s ↔ s.sup.raised = false ∧ ms 1 ≤ s.sup.belowTime) ∧
    (.warningClear ∈ due s ↔ s.sup.raised = true ∧ s.sup.phase ≠ .warned ∧ ms 100 ≤ s.sup.aboveTime) ∧
    (.holdEntryTimerEnd ∈ due s ↔ s.sup.phase = .warned ∧ ms 40 ≤ s.sup.timer) ∧
    (s.sup.powered = false →
      (∀ c : Instr, c ≠ .coldStart → exec c s = .next s) ∧ (s.pending = [] → step s = .next s)) ∧
    (s.sup.powered = true → s.pending = [] →
      (due s = [] → step s = .next (tick s) ∧ (tick s).pending = []) ∧
      (due s ≠ [] → ∃ c, c ∈ due s ∧ ∃ n, step s = .next { s with pending := [c], free := n }))

/-! ## Chapter 1: the memory path -/

/-- ADDRESS_BYTE, cases 1 to 3 of R4: isolated, or the segment held by a job, or a memory-class read with the mirror pointer UNKNOWN,
the address byte is answered NACK and nothing goes onto the memory segment, of one that was under way when the isolation cause was set
too (log entry 38, DESIGN CHOICE). In cases 1 and 2 the owner is unchanged; in case 3 it is
HOST until the host transaction ends, which is then memory-class (log entry 5, DEDUCED). A repeated START has ended the transaction
before it, and with it, as a STOP would, the submission of an INBOX write (R103). -/
def Obligations.RefusedAddressByte : Prop :=
  ∀ (s : State) (select : BitVec 7) (dir : Dir) (ack : Bool), s.Quiet →
    (s.path.isolated = true ∨ s.path.owner = .own →
      (s.path.owner ≠ .host → exec (.addressByte select dir ack) s = .next { s with
        lines := s.said (some false) none []
        pins := s.byteOver
        path := { s.path with phase := .refused } }) ∧
      (s.path.owner = .host → s.EndsNoSubmission → exec (.addressByte select dir ack) s = .next { s with
        lines := s.said (some false) none []
        pins := s.byteOver
        dec := s.decAtEnd
        win := s.win.noSnapshots
        path := { s.path with phase := .refused, window := none, stopping := false, mirror := s.path.endMirror } }) ∧
      (s.path.owner = .host → s.Settled → ∃ u, exec .hostStop s = .next u ∧
        exec (.addressByte select dir ack) s = .next { s with
          lines := s.said (some false) none []
          pins := s.byteOver
          dec := u.dec, sto := u.sto
          win := s.win.noSnapshots
          path := { s.path with
            phase := .refused, window := none, stopping := false, mirror := s.path.endMirror, jobs := u.path.jobs } })) ∧
    (s.path.isolated = false → s.memoryClass select = true → dir = .read →
      (s.path.owner = .free → s.path.mirror = none → exec (.addressByte select dir ack) s = .next { s with
        lines := s.said (some false) none []
        pins := s.byteOver
        path := { s.path with
          owner := .host, phase := .refused, memClass := true, segOpen := false, stopping := false, holdTime := 0 } }) ∧
      (s.path.owner = .host → s.path.endMirror = none → s.EndsNoSubmission →
        exec (.addressByte select dir ack) s = .next { s with
          lines := s.said (some false) none []
          pins := s.byteOver
          dec := s.decAtEnd
          win := s.win.noSnapshots
          path := { s.path with phase := .refused, memClass := true, window := none, stopping := false, mirror := none } }) ∧
      (s.path.owner = .host → s.path.endMirror = none → s.Settled → ∃ u, exec .hostStop s = .next u ∧
        exec (.addressByte select dir ack) s = .next { s with
          lines := s.said (some false) none []
          pins := s.byteOver
          dec := u.dec, sto := u.sto
          win := s.win.noSnapshots
          path := { s.path with
            phase := .refused, memClass := true, window := none, stopping := false, mirror := none, jobs := u.path.jobs } }))

/-- ADDRESS_BYTE, case 4 of R4: otherwise the same address byte goes onto the memory segment, after a START or, where the host's
transaction is still open there, a repeated START, and the host sees the memory's answer. A START while FREE makes the owner HOST
with a new hold-limit timer (R2, R15); a repeated START leaves the timer running. The transaction is memory-class once one of its address
bytes was (log entry 5, DEDUCED). It ends the transaction before it, and with it, as a STOP would, the submission of an INBOX
write (R103), and a STOP that is still owed goes before the address byte (log entry 35, DESIGN CHOICE). A select is memory-class where its
first four bits are 1010 and each of the last three equals its strap or is freed by the select mask, which is that of page 0 while
CONFIGURED and frees none before (R1). -/
def Obligations.AddressByteIsCarried : Prop :=
  ∀ (s : State) (select : BitVec 7) (dir : Dir) (ack : Bool),
    (s.memoryClass select = true ↔ select.toNat / 8 = 0b1010 ∧
      ∀ i < 3, select.getLsbD i = s.path.strap.getLsbD i ∨ s.win.selectMask.getLsbD i = true) ∧
    (s.Quiet → s.path.isolated = false →
    (s.path.owner = .free → ¬ (s.memoryClass select = true ∧ dir = .read ∧ s.path.mirror = none) →
      exec (.addressByte select dir ack) s = .next { s with
        lines := s.said (some ack) none (s.path.owed ++ [.address false select dir])
        pins := s.byteOver
        path := { s.path.stopped with
          owner := .host
          phase := phaseAfterAddress (s.memoryClass select) dir ack
          memClass := s.memoryClass select
          segOpen := true
          stopping := false
          holdTime := 0 } }) ∧
    (s.path.owner = .host → s.EndsNoSubmission →
      ¬ (s.memoryClass select = true ∧ dir = .read ∧ s.path.endMirror = none) →
      exec (.addressByte select dir ack) s = .next { s with
        lines := s.said (some ack) none (s.path.owed ++ [.address s.path.segOpen select dir])
        pins := s.byteOver
        dec := s.decAtEnd
        win := s.win.noSnapshots
        path := { s.path.stopped with
          phase := phaseAfterAddress (s.memoryClass select) dir ack
          memClass := s.path.memClass || s.memoryClass select
          window := none
          segOpen := true
          stopping := false
          mirror := s.path.endMirror } }) ∧
    (s.path.owner = .host → s.Settled →
      ¬ (s.memoryClass select = true ∧ dir = .read ∧ s.path.endMirror = none) → ∃ u, exec .hostStop s = .next u ∧
      exec (.addressByte select dir ack) s = .next { s with
        lines := s.said (some ack) none (s.path.owed ++ [.address s.path.segOpen select dir])
        pins := s.byteOver
        dec := u.dec, sto := u.sto
        win := s.win.noSnapshots
        path := { s.path.stopped with
          phase := phaseAfterAddress (s.memoryClass select) dir ack
          memClass := s.path.memClass || s.memoryClass select
          window := none
          segOpen := true
          stopping := false
          mirror := s.path.endMirror
          jobs := u.path.jobs } }))

/-- WORD_ADDRESS_BYTE (R6, R13): both bytes go to the memory and are answered as it answers. The ACK of the second, after an ACK of
the first, sets the mirror pointer and fixes the window of its page; a NACK to either makes the pointer UNKNOWN. A waiting RESTORE is
withdrawn when the word address is set. That an ACK of the second after a NACK of the first sets nothing is log entry 27 (DESIGN CHOICE).
The windows (R28): pages 0 and 1 have their own in every configuration state; while
UNCONFIGURED pages 2 to 511 are OPEN; while CONFIGURED with a valid table a page of a region has the region's window, and every other
page is OPEN. -/
def Obligations.WordAddressFixesWindow : Prop :=
  ∀ (s : State) (byte : Byte) (ack : Bool) (page : Nat), s.Quiet →
    (s.path.phase = .addressed → exec (.wordAddressByte byte ack) s = .next { s with
      lines := s.said (some ack) none [.put byte]
      pins := s.byteOver
      path := { s.path with phase := .wordHigh byte ack, mirror := if ack then s.path.mirror else none } }) ∧
    (∀ (hi : Byte) (hiAck : Bool), s.path.phase = .wordHigh hi hiAck →
      exec (.wordAddressByte byte ack) s = .next { s with
        lines := s.said (some ack) none [.put byte]
        pins := s.byteOver
        path := if hiAck && ack then { s.path with
              phase := .pointerSet
              window := some (s.win.windowOf ((hi ++ byte).toNat / 128))
              wordAddr := hi ++ byte
              mirror := some (hi ++ byte)
              jobs := s.path.jobs.filter (· != .restore) }
          else { s.path with phase := .nacked, mirror := none } }) ∧
    s.win.windowOf 0 = .page0 ∧ s.win.windowOf 1 = .page1 ∧
    (2 ≤ page → s.win.configured = false → s.win.windowOf page = .openPage) ∧
    (s.win.configured = true → tableValid s.win.table = true →
      (∀ r ∈ s.win.table, ∀ p, r.first ≤ p → p < r.first + r.count → s.win.windowOf p = r.kind.window) ∧
      (2 ≤ page → (∀ r ∈ s.win.table, ¬ (r.first ≤ page ∧ page < r.first + r.count)) →
        s.win.windowOf page = .openPage))

/-- FOREIGN_BYTE, and HOST_WRITE_DATA_BYTE for an OPEN page (R5, R7, R9): the byte is passed on in its direction with the receiver's
answer. In a foreign transaction only the phase of a read moves. In an OPEN page the mirror pointer advances within the page after an
ACK, from offset 127 to offset 0, and is UNKNOWN after a NACK. -/
def Obligations.CarriedBytesAreForwarded : Prop :=
  ∀ (s : State) (byte : Byte) (ack : Bool), s.Quiet →
    (s.path.phase = .foreignWrite → exec (.foreignByte byte ack) s = .next { s with
      lines := s.said (some ack) none [.put byte]
      pins := s.byteOver }) ∧
    (∀ last, s.path.phase = .foreignRead last → exec (.foreignByte byte ack) s = .next { s with
      lines := s.said none (some byte) [.get ack]
      pins := s.byteOver
      path := { s.path with phase := .foreignRead (if ack then .acked else .nacked) } }) ∧
    (s.path.window = some .openPage → (s.path.phase = .pointerSet ∨ s.path.phase = .writing) →
      exec (.hostWriteDataByte byte ack) s = .next { s with
        lines := s.said (some ack) none [.put byte]
        pins := s.byteOver
        path := { s.path with
          phase := .writing
          mirror := if ack then
              s.path.mirror.map fun a => if a.toNat % 128 = 127 then a - 127 else a + 1
            else none } })

/-- HOST_WRITE_DATA_BYTE for a guarded page (R7): every data byte is answered NACK and none is forwarded. The first one ends the
memory-segment transaction with STOP and reports one PATH condition: a CLEAR latch becomes HELD (R149), and before the latches are
loaded the finding waits (R150). The mirror pointer, the account and the codes are unchanged, and the other latches, but for BYPASS,
whose condition ends if the finding trips the supply (R140). It holds of a transaction that goes on while isolated, too (log entry 46,
DEDUCED). -/
def Obligations.GuardedPageByteIsRefused : Prop :=
  ∀ (s : State) (byte : Byte) (ack : Bool) (w : Window), s.Settled → s.path.window = some w → w ≠ .openPage → w ≠ .inbox →
    (s.path.phase = .writing → exec (.hostWriteDataByte byte ack) s = .next { s with
      lines := s.said (some false) none []
      pins := s.byteOver }) ∧
    (s.path.phase = .pointerSet → ∃ t, exec (.hostWriteDataByte byte ack) s = .next t ∧
      t = { s with
        lines := s.said (some false) none s.path.openStop
        pins := s.byteOver
        path := { s.path with phase := .writing, segOpen := false, stopping := s.path.segOpen, jobs := t.path.jobs }
        sto := { s.sto with waiting := t.sto.waiting, stage := t.sto.stage }
        tam := t.tam, sw := t.sw, log := t.log } ∧
      (s.tam.loaded = false → t.tam = { s.tam with waiting := { s.tam.waiting with path := true } }) ∧
      (s.tam.loaded = true →
        t.tam.latches.path = (if s.tam.latches.path = .clear then .held else s.tam.latches.path) ∧
        ∀ k ∈ tamperKinds, k ≠ .path → k ≠ .bypass → t.tam.latches.get k = s.tam.latches.get k))

/-- The law of the guarded pages (R7), for one data byte: whatever else the part does at it, a byte that it carries onto the memory
segment is the host's own, in a write whose fixed window is OPEN. -/
def Obligations.OnlyOpenPagesTakeHostBytes : Prop :=
  ∀ (s : State) (byte : Byte) (ack : Bool), ∃ t, exec (.hostWriteDataByte byte ack) s = .next t ∧
    (s.sup.powered = true → ∀ b, .put b ∈ t.lines.seg → s.path.window = some .openPage ∧ b = byte)

/-- HOST_READ_DATA_BYTE (R10, R11, R33, R35): the host's answer is passed to the memory with the byte read, and the mirror pointer
advances by one, over pages and from 0xFFFF to 0x0000. The host is given the memory's byte, but for LIVE and INBOX pages the byte of
the view's snapshot at that offset, taken at the transaction's first such byte; past the view's end it is 0x00. The live view has its
fields at the offsets of 12.6 (R32), live power that of every completed block (R33, R79; that is the model's reading: log entry 8,
DEDUCED), and the outcome view the records of the list, newest first, at those of 12.5 (R34). -/
def Obligations.ReadByteIsCarried : Prop :=
  ∀ (s : State) (byte : Byte) (ack : Bool) (a : Addr),
    let e := s.eng
    let flag := fun (b : Bool) => if b then 1 else 0
    let power := if 50 ≤ e.winCount then e.winSum * 36 / (10 * 2 ^ 48) else e.power
    ((liveView s).length = 64 ∧
      (∀ f ∈ [(0, 4, (e.credit % 2 ^ 32).toNat), (4, 4, e.shortfall), (8, 6, e.cumulative), (14, 6, e.fine), (20, 4, e.rate),
          (24, 4, e.pendingRate.getD 0), (28, 2, e.limit), (30, 3, e.allow), (33, 1, flag e.pendingAllow.isSome),
          (34, 3, e.pendingAllow.getD 0), (37, 1, e.ec.code), (38, 1, flag e.lowFlag), (39, 2, min power 65535),
          (41, 1, s.sw.relay.code), (42, 1, s.sw.reasons.code), (43, 1, flag s.sw.armed), (44, 3, s.tam.latches.code),
          (47, 1, s.sto.state.code), (48, 4, s.log.nextNo.toNat), (52, 1, min s.log.lost 255),
          (53, 1, flag s.win.configured + 2 * flag s.win.calFromPage1 + 4 * flag s.port.sealed), (54, 10, 0)],
        field (liveView s) f.1 f.2.1 = f.2.2 % 256 ^ f.2.1)) ∧
    ((outcomeView s).length = 37 ∧ field (outcomeView s) 0 1 = min s.dec.outcomes.length 4 ∧
      (∀ i < 4, ((outcomeView s).drop (1 + 9 * i)).take 9 = match s.dec.outcomes[i]? with
        | none => List.replicate 9 0
        | some r =>
          let kind := (r.kindSeq.map (·.1)).getD 0
          let seq := (r.kindSeq.map (·.2)).getD 0
          let detail := (r.detail.map (·.toNat)).getD 0
          r.tag :: [r.outcome.code, flag r.kindSeq.isSome + 2 * flag r.detail.isSome, kind, seq / 65536, seq / 256, seq,
            detail / 256, detail].map (BitVec.ofNat 8))) ∧
    (s.Quiet → (s.path.phase = .reading .unread ∨ s.path.phase = .reading .acked) → s.path.mirror = some a →
    let next := { s.path with phase := .reading (if ack then .acked else .nacked), mirror := some (a + 1) }
    let live := s.win.liveSnap.getD (liveView s)
    let outcomes := s.win.outcomeSnap.getD (outcomeView s)
    exec (.hostReadDataByte byte ack) s = .next (match s.win.windowOf (a.toNat / 128) with
      | .live => { s with
          lines := s.said none (some (live.getD (a.toNat % 128) 0)) [.get ack]
          pins := s.byteOver
          win := { s.win with liveSnap := some live }
          path := next }
      | .inbox => { s with
          lines := s.said none (some (outcomes.getD (a.toNat % 128) 0)) [.get ack]
          pins := s.byteOver
          win := { s.win with outcomeSnap := some outcomes }
          path := next }
      | .openPage | .page0 | .page1 | .sealedPage | .account | .log => { s with
          lines := s.said none (some byte) [.get ack]
          pins := s.byteOver
          path := next }))

/-- HOST_STOP and BUS_ERROR (R2, R12, R16, R17): either ends the host transaction on both segments, discards the snapshots, sets the
host pointer after a memory-class transaction and frees the segment; where no host transaction holds the segment it ends the cut state
or a refused transaction and nothing more. A bus error made by a START is also the START of a new transaction, which takes a FREE
segment of a part that is not isolated, and takes it before a waiting job does (log entry 29, DESIGN CHOICE). In the address byte after a
START or repeated START, which has itself ended the write before it (R8, R103), a bus error ends everything as a STOP does, an INBOX
submission too, which has its turn. -/
def Obligations.StopOrBusErrorEndsTransaction : Prop :=
  ∀ (s : State) (inAddress : Bool),
    exec (.busError ⟨false, true⟩) s = exec .hostStop s ∧
    (s.Settled → s.path.owner = .host → ∃ u, exec .hostStop s = .next u ∧
      exec (.busError ⟨true, true⟩) s = .next { u with path := if s.path.isolated = false then { u.path with
          phase := .started, owner := .host, memClass := false, segOpen := false, stopping := false, holdTime := 0 }
        else { u.path with phase := .started } }) ∧
    (s.Quiet → (s.path.owner = .host → s.EndsNoSubmission) →
    let held := s.path.owner = .host
    let ended := if held then s.path.hostGone .idle s.path.endMirror else { s.path with phase := .idle }
    let after := fun (path : Path) => (.next { s with
      lines := s.said none none (if held then s.path.openStop else [])
      pins := s.byteOver
      dec := if held then s.decAtEnd else s.dec
      win := if held then s.win.noSnapshots else s.win
      path := path } : Host.Outcome State Fault Refusal)
    exec .hostStop s = after ended ∧ exec (.busError ⟨false, inAddress⟩) s = after ended ∧
    exec (.busError ⟨true, inAddress⟩) s = after (if s.path.isolated = false ∧ ended.owner = .free then
        { ended with
          phase := .started, owner := .host, memClass := false, segOpen := false, stopping := false, holdTime := 0 }
      else { ended with phase := .started }))

/-- HOLD_LIMIT_EXPIRY and CUT_STATE_BYTE (R15, R16): with a job waiting and the upstream segment between bytes, the host transaction
is cut at once: a read whose last byte or address byte was acknowledged has one more byte clocked, answered NACK and discarded, then
STOP; the host pointer is set, the owner is FREE and the upstream segment is in the cut state. In mid-byte, and while no job waits,
only the timer stands at 50 ms. A cut that the timer with a waiting job, or the warning, has asked for is taken at the end of the
byte, after what the byte itself does, and at once when a job joins between bytes; hold entry that is due follows it. The submission
of an INBOX write ends at a cut as at a STOP. In the cut state a written byte is answered NACK and a read byte is 0xFF; nothing
reaches the memory, the Code Decoder or the Tamper Monitor. A byte of a foreign transaction that is no longer carried meets released
lines (log entry 36, DEDUCED). A cut before the address byte of a START puts nothing onto the segment (log entry 37,
DESIGN CHOICE). A cut after a repeated START that the part refused clocks no byte (log entry 51, DESIGN CHOICE). -/
def Obligations.HoldLimitCutsTransaction : Prop :=
  (∀ (s : State) (byte : Byte) (ack : Bool), s.Quiet →
    (s.path.owner = .host →
      (s.path.jobs = [] ∨ s.pins.midByte = true → exec .holdLimitExpiry s = .next { s with
        lines := s.said none none []
        path := { s.path with holdTime := ms 50 } }) ∧
      (s.path.jobs ≠ [] → s.pins.midByte = false → s.EndsNoSubmission →
        exec .holdLimitExpiry s = .next { s with
          lines := s.said none none ((if s.path.clocksAtCut then [.get false] else []) ++ s.path.openStop)
          dec := s.decAtEnd
          win := s.win.noSnapshots
          path := s.path.hostGone .cut s.path.cutMirror }) ∧
      (s.path.jobs ≠ [] → s.pins.midByte = false → s.path.window = some .inbox → s.path.phase = .writing →
        ∃ u, exec .hostStop s = .next u ∧
          exec .holdLimitExpiry s = .next { u with pins := s.pins, path := { u.path with phase := .cut } })) ∧
    (s.path.phase = .cut →
      (∀ c, c = .cutStateByte .write ∨ c = .hostWriteDataByte byte ack ∨ c = .wordAddressByte byte ack →
        exec c s = .next { s with lines := s.said (some false) none [], pins := s.byteOver }) ∧
      (∀ c, c = .cutStateByte .read ∨ c = .hostReadDataByte byte ack →
        exec c s = .next { s with lines := s.said none (some 0xFF) [], pins := s.byteOver })) ∧
    (s.path.phase = .cut ∨ s.path.phase = .refused → exec (.foreignByte byte ack) s = .next { s with
      lines := s.said (some false) (some 0xFF) [], pins := s.byteOver })) ∧
  (∀ (s u : State) (c : Instr) (byte : Byte) (ack : Bool), s.path.owner = .host →
    ((s.pins.midByte = false ∧ c = .spendThreshold) ∨ c = .foreignByte byte ack ∨ c = .wordAddressByte byte ack ∨
      c = .hostWriteDataByte byte ack ∨ c = .hostReadDataByte byte ack) →
    exec c { s with path := { s.path with cutPending := false, holdTime := 0 } } = .next u →
    s.path.cutPending = true ∨ (ms 50 ≤ s.path.holdTime ∧ u.path.jobs ≠ []) →
    State.Settled { s with path := { s.path with cutPending := false, holdTime := 0 } } →
    let v := { u with
      lines := { u.lines with seg := u.lines.seg ++ (if u.path.clocksAtCut then [.get false] else []) ++ u.path.openStop }
      dec := u.decAtEnd
      win := u.win.noSnapshots
      path := u.path.hostGone .cut u.path.cutMirror }
    (u.EndsNoSubmission → exec c s = .next v) ∧
    (u.path.jobs ≠ [] → ∃ x, exec .holdLimitExpiry u = .next x ∧
      exec c s = .next { x with lines := { u.lines with seg := u.lines.seg ++ x.lines.seg } }) ∧
    (u.EndsNoSubmission → s.sup.phase = .warned → s.path.run = none → ∃ w, exec .holdEntryTimerEnd v = .next w ∧
      exec c { s with sup := { s.sup with holdDue := true } } = .next { w with lines := v.lines }))

/-- MEMORY_CLOCK_FAULT and MEMORY_CLOCK_SEEN_HIGH (R18): the transaction in progress is abandoned, its STOP is owed and the mirror
pointer is UNKNOWN (of a foreign transaction too: log entry 28, DESIGN CHOICE). A host transaction ends as at a cut, and so does one
whose STOP at the first byte of an INBOX or guarded page the fault has met; an INBOX submission then ends as at a STOP. The failure of a
job's transaction is reported to the job's owner in the same way as a poll timeout. Once the memory clock is seen high, the STOP owed is
issued, once. Until then a job goes on as it would without it, but what it begins waits behind that STOP and the memory answers nothing
(log entry 35, DESIGN CHOICE). A fault while the address byte after a START or repeated START is carried ends its transaction likewise.
That a transaction whose owner is already FREE meets no fault is log entry 38 (DESIGN CHOICE). -/
def Obligations.MemoryClockFaultAbandons : Prop :=
  ∀ (s : State) (select : BitVec 7) (dir : Dir), s.Quiet →
    let released := { s.pins with carried := none }
    (s.pins.carried = some (.address select dir) → s.path.isolated = false →
      ¬ (s.memoryClass select = true ∧ dir = .read ∧ s.path.endMirror = none) →
      (s.path.owner = .free → s.path.window = none → exec .memoryClockFault s = .next { s with
        lines := s.said none none []
        pins := released
        win := s.win.noSnapshots
        path := { s.path.hostGone .cut none with
          hostPtr := if s.memoryClass select then none else s.path.hostPtr, stopOwed := true, clockLowTime := 0 } }) ∧
      (s.path.owner = .host → ∃ u, exec .hostStop s = .next u ∧ exec .memoryClockFault s = .next { u with
        lines := s.said none none []
        pins := released
        path := { u.path with
          phase := .cut, mirror := none
          hostPtr := if s.path.memClass || s.memoryClass select then none else s.path.hostPtr
          stopOwed := true, clockLowTime := 0 } })) ∧
    (s.path.owner = .host → s.carriedAddress = none → s.path.segOpen = true ∨ s.path.stopping = true → s.EndsNoSubmission →
      exec .memoryClockFault s = .next { s with
        lines := s.said none none []
        pins := released
        dec := s.decAtEnd
        win := s.win.noSnapshots
        path := { s.path.hostGone .cut none with stopOwed := true, clockLowTime := 0 } }) ∧
    (s.path.owner = .host → s.carriedAddress = none → s.path.segOpen = true ∨ s.path.stopping = true →
      ∃ u, exec .hostStop s = .next u ∧
      exec .memoryClockFault s = .next { u with
        lines := s.said none none []
        pins := released
        path := { u.path with
          phase := .cut, mirror := none, hostPtr := if s.path.memClass then none else s.path.hostPtr
          stopOwed := true, clockLowTime := 0 } }) ∧
    (s.path.owner = .own → s.path.run.isSome = true → exec .memoryClockFault s =
      exec .pollTimeout { s with path := { s.path with mirror := none, stopOwed := true, clockLowTime := 0 } }) ∧
    (s.carriedAddress = none → s.path.owner = .free ∨
        (s.path.owner = .host ∧ s.path.segOpen = false ∧ s.path.stopping = false) →
      exec .memoryClockFault s = .next { s with lines := s.said none none [] }) ∧
    exec .memoryClockSeenHigh s = .next { s with lines := s.said none none s.path.owed, path := s.path.stopped } ∧
    (s.path.stopOwed = true →
      (∀ (ok : Bool) (w : WriteResult) (a : ReadResult 64) (b : Option (ReadResult 64)) (p : ReadResult 128) (r : ReadResult 16),
        ∀ c ∈ [Instr.pollAck, .pointerRestoreEnd ok, .page0ReadDone p, .page1ReadDone p, .commitWriteDone w, .commitReadbackDone a,
          .slotSelection a b, .holdExitCheck a, .logAppendWriteDone w, .logSlotReadDone r, .pageWriteDone w, .pageWriteResult p],
        exec c s = .next { s with lines := s.said none none [] }) ∧
      (s.OneOwner → ∀ c, (c = .jobGrant ∧ s.path.owner = .free) ∨ (c = .pollTimeout ∧ s.path.owner = .own) → ∃ u,
        exec c { s with path := s.path.stopped } = .next u ∧
        exec c s = .next { u with
          lines := { u.lines with seg := [] }, path := { u.path with stopOwed := true, behind := u.lines.seg } }))

/-- JOB_GRANT (R2, R3, R13, R14, R20, R99, R170, R185): while the segment is FREE, with no address byte of a host's START under way
there (log entry 38, DESIGN CHOICE), outside HOLD the first waiting job in the order of
R3 takes it, between hold exit and the end of its check only START-UP READS; otherwise nothing happens. The job leaves the list and
begins its first transaction, with 1010 and the sampled straps as its select (R1); the one of a commit is stated by itself, and a grant
while a STOP is owed with MEMORY_CLOCK_FAULT. That a cold start reads page 0 whole is log entry 52 (DESIGN CHOICE). -/
def Obligations.GrantFollowsOrder : Prop :=
  ∀ (s : State) (k : JobKind), s.Quiet →
    let took := fun (stage : JobStage) => { s.path with
      owner := .own, run := some { kind := k, stage := stage }, segOpen := false, pollTime := 0, clockLowTime := 0,
      jobs := s.path.jobs.filter (· != k) }
    let checking := s.sup.step = .exitLock ∨ s.sup.step = .exitCal ∨ s.sup.step = .exitCheck
    ((s.path.owner ≠ .free ∨ s.carriedAddress.isSome ∨ s.sup.phase = .held ∨ s.path.jobs = [] ∨ (checking ∧ .startUpReads ∉ s.path.jobs)) →
      exec .jobGrant s = .next { s with lines := s.said none none [] }) ∧
    (s.path.owner = .free → s.carriedAddress = none → s.sup.phase ≠ .held → s.path.stopOwed = false → k ∈ s.path.jobs →
      (∀ j ∈ s.path.jobs, k = j ∨ jobOrder.idxOf k < jobOrder.idxOf j) →
      (checking → k = .startUpReads) →
      (k = .startUpReads → s.sup.phase = .starting → exec .jobGrant s = .next { s with
        lines := s.said none none [s.own (.read 0 128)], path := took .readPage0 }) ∧
      (k = .startUpReads → s.sup.phase ≠ .starting → ∀ slot, s.sto.slot = some slot → exec .jobGrant s = .next { s with
        lines := s.said none none [s.own (.read (pageAddr (s.win.slotPage slot)) 64)], path := took .holdCheck }) ∧
      (k = .startUpReads → s.sup.phase ≠ .starting → s.sto.slot = none → exec .jobGrant s = .next { s with
        lines := s.said none none [s.own (.write (s.path.hostPtr.getD 0) [])], path := took .restore }) ∧
      (k = .pageWrite → exec .jobGrant s = .next { s with
        lines := s.said none none [s.own (.write (pageAddr s.port.pageNo) s.port.pageData)], path := took .pageWrite }) ∧
      (k = .logAppend → exec .jobGrant s = .next { s with
        lines := s.said none none [s.own (.write s.log.bodyWrite.1 s.log.bodyWrite.2)]
        path := took .logBody
        log := { s.log with stage := .running } }) ∧
      (k = .restore → exec .jobGrant s = .next { s with
        lines := s.said none none [s.own (.write (s.path.hostPtr.getD 0) [])], path := took .restore }))

/-- POLL_ACK, POLL_TIMEOUT, COMMIT_WRITE_DONE and COMMIT_READBACK_DONE of a job that goes on (R14, R90, R91, R93, R170, R185): after a
write's STOP comes the poll, and its ACK takes the job to its next transaction. A poll that reaches its limit, a write that the memory
refuses, or bytes that differ are a failure: attempt 1 of a commit is followed by attempt 2 in the same job, with nothing else changed,
and a page write ends with WRITE_FAILED and an append in BACKOFF, each with the job's restore. The mirror pointer after a read that ended at
a select is log entry 22 (DEDUCED). At the poll before attempt 2, COMMIT_WRITE_DONE stands for its ACK and the second write, which goes
onto the memory segment within it (log entry 24, DESIGN CHOICE). -/
def Obligations.JobTransactionsGoOn : Prop :=
  ∀ (s : State) (r : JobRun) (w : WriteResult) (d : ReadResult 64), s.Quiet → s.path.run = some r → s.path.stopOwed = false →
    let target := if s.sto.slot = some .a then Slot.b else Slot.a
    let base := pageAddr (s.win.slotPage target)
    let on := fun (stage : JobStage) (act : OwnAct) => { s with
      lines := s.said none none [s.own act]
      path := { s.path with run := some { r with stage := stage }, pollTime := 0 } }
    (r.stage = .commitPrePoll → exec .pollAck s = .next (on .commitWrite (.write base s.sto.snapshotBytes))) ∧
    (r.stage = .commitPoll → exec .pollAck s = .next (on .commitRead (.read base 64))) ∧
    (r.stage = .pagePoll → exec .pollAck s = .next (on .pageRead (.read (pageAddr s.port.pageNo) 128))) ∧
    (r.stage = .logBodyPoll →
      exec .pollAck s = .next (on .logNumber (.write s.log.numberWrite.1 s.log.numberWrite.2))) ∧
    (r.stage = .commitWrite ∨ r.stage = .commitPoll → s.sto.attempt = 1 →
      exec .pollTimeout s = .next { on .commitPrePoll .poll with sto := { s.sto with attempt := 2 } }) ∧
    (r.stage = .pageWrite ∨ r.stage = .pagePoll →
      exec .pollTimeout s = .next { on .restore (.write (s.path.hostPtr.getD 0) []) with
        port := { s.port with pageResult := .writeFailed } }) ∧
    (r.stage = .logBody ∨ r.stage = .logBodyPoll ∨ r.stage = .logNumber ∨ r.stage = .logNumberPoll →
      s.sup.step ≠ .exitDrain →
      exec .pollTimeout s = .next { on .restore (.write (s.path.hostPtr.getD 0) []) with
        log := { s.log with stage := .backoff } }) ∧
    (r.stage = .commitWrite ∨ r.stage = .commitPrePoll → exec (.commitWriteDone .acked) s = .next { s with
      lines := s.said none none
        ((if r.stage = .commitPrePoll then [s.own (.write base s.sto.snapshotBytes)] else []) ++ [s.own .poll])
      path := { s.path with run := some { r with stage := .commitPoll }, pollTime := 0, mirror := some (base + 64) } }) ∧
    (r.stage = .commitWrite → w ≠ .acked → s.sto.attempt = 1 → exec (.commitWriteDone w) s = .next { s with
      lines := s.said none none [s.own .poll]
      sto := { s.sto with attempt := 2 }
      path := { s.path with run := some { r with stage := .commitPrePoll }, pollTime := 0, mirror := none } }) ∧
    (r.stage = .commitRead → readBytes d ≠ some s.sto.snapshotBytes → s.sto.attempt = 1 →
      exec (.commitReadbackDone d) s = .next { s with
        lines := s.said none none [s.own .poll]
        sto := { s.sto with attempt := 2 }
        path := { s.path with
          run := some { r with stage := .commitPrePoll }, pollTime := 0
          mirror := match d with
            | .bytes _ => some (base + 64)
            | .selectNack => s.path.mirror
            | .wordNack => none
            | .readSelectNack => some base } })

/-- POINTER_RESTORE_END (R13, R92, R94, R169, R176, R179) of a LOG APPEND, a standalone RESTORE, a COMMIT or URGENT COMMIT, or the
START-UP READS of a cold start: the segment is FREE; an acknowledged restore gives both pointers the restored value; a failed one makes
the mirror pointer UNKNOWN, keeps the host pointer, and adds one standalone RESTORE unless it was one. A commit's end makes its stage
QUEUED if a request waits and IDLE otherwise, and a backed-off Log Writer asks again; hold entry follows an urgent commit only in WARNED
with no POWERFAIL request waiting (log entry 18, DEDUCED). Where the commit has reached the end of the generations, a request that waits is
ended as a second failure and its job withdrawn (R85). At a cold start POWER_UP (COLD) and the relay check follow once calibration is
complete too. -/
def Obligations.RestoreSetsPointers : Prop :=
  ∀ (s : State) (kind : JobKind) (ok : Bool), s.Quiet → s.path.owner = .own → s.path.stopOwed = false →
    s.path.run = some { kind := kind, stage := .restore } →
    let path := { s.path with
      owner := .free
      run := none
      behind := []
      pollTime := 0
      mirror := if ok then some (s.path.hostPtr.getD 0) else none
      hostPtr := if ok then some (s.path.hostPtr.getD 0) else s.path.hostPtr
      jobs := if ok = false ∧ kind ≠ .restore then s.path.withJob .restore else s.path.jobs }
    (kind = .logAppend ∨ kind = .restore →
      exec (.pointerRestoreEnd ok) s = .next { s with lines := s.said none none [], path := path }) ∧
    (kind = .startUpReads → s.sup.step = .coldCalRestore →
      (s.smp.conv ≠ .calibrated → exec (.pointerRestoreEnd ok) s = .next { s with
        lines := s.said none none [], path := path, sup := { s.sup with restoreDone := true } }) ∧
      (s.smp.conv = .calibrated → ∃ t, exec (.pointerRestoreEnd ok) s = .next t ∧
        t = { s with
          lines := s.said none none []
          smp := { s.smp with
            capture := t.smp.capture, capCount := t.smp.capCount, capMax := t.smp.capMax, capSum := t.smp.capSum }
          sup := { s.sup with restoreDone := true, step := .coldRelayCheck }
          sw := { s.sw with check := t.sw.check }
          log := t.log
          path := { path with jobs := t.path.jobs } } ∧
        (s.smp.capture = .idle → s.sup.phase ≠ .held → t.smp.capture = .waiting ∧ t.sw.check = .waiting) ∧
        (s.LogsEvents → t.log.queue = s.log.queue ++ [eventRec .powerUp 1 s.log.nextNo s]))) ∧
    (kind = .commit ∨ (kind = .urgentCommit ∧ (s.sup.phase ≠ .warned ∨ s.sto.waiting = some .powerFail)) →
      s.sto.generationEnded = false →
      let asks := s.log.stage = .backoff ∧ s.log.queue ≠ []
      exec (.pointerRestoreEnd ok) s = .next { s with
        lines := s.said none none []
        sto := { s.sto with stage := if s.sto.waiting = none then .idle else .queued, inTrigger := none }
        log := { s.log with stage := if asks then .queued else s.log.stage }
        path := { path with jobs := if asks then path.withJob .logAppend else path.jobs } }) ∧
    (kind = .commit ∨ kind = .urgentCommit → s.sup.phase ≠ .warned → s.sto.generationEnded = true →
      s.sto.waiting.isSome = true → s.sto.state ≠ .noAccount → ∃ t, exec (.pointerRestoreEnd ok) s = .next t ∧
        t.path = { path with jobs := t.path.jobs } ∧ .commit ∉ t.path.jobs ∧ .urgentCommit ∉ t.path.jobs ∧
        t.eng = { s.eng with spend := 0, spendDue := false } ∧
        t.sto = { s.sto with
          waiting := none, stage := .idle, inTrigger := none, held := none, carried := none, snapshot := none, attempt := 1
          state := if s.sto.state = .loaded ∨ s.sto.state = .void then .storeFault else s.sto.state } ∧
        (s.sto.held.isSome = true → ∀ x, s.dec.active = some x → ∀ o ∈ t.dec.outcomes, o.entry = x.1.entry →
          o.outcome = .store ∧ o.kindSeq = some (x.2.kind.digit, x.2.seq)))

/-! ## Chapter 2: windows and the memory layout -/

/-- R23: the table of page 0 is valid just when every region has its place, no page lies in two regions, there is one region each of
ACCOUNT, LOG, LIVE and INBOX, and the sizes are those of their kinds. -/
def Obligations.RegionTableCheck : Prop :=
  ∀ t : List Region, tableValid t = true ↔
    (∀ r ∈ t, 2 ≤ r.first ∧ r.first ≤ 511 ∧ 1 ≤ r.count ∧ r.first + r.count - 1 ≤ 511) ∧
    t.Pairwise (fun r q => ∀ page, ¬ (r.first ≤ page ∧ page ≤ r.first + r.count - 1 ∧
      q.first ≤ page ∧ page ≤ q.first + q.count - 1)) ∧
    (∀ k : RegionKind, k ≠ .sealedRegion → (t.filter fun r => r.kind = k).length = 1) ∧
    (∀ r ∈ t, (r.kind = .account → r.count = 2) ∧ (r.kind = .log → 2 ≤ r.count ∧ r.count ≤ 64) ∧
      (r.kind = .live → r.count = 1) ∧ (r.kind = .inbox → r.count = 1)) ∧
    (t.filter fun r => r.kind = .sealedRegion).length ≤ 4

/-- PAGE0_READ_DONE and PAGE1_READ_DONE (R24, R25, R26, R179): a valid page 0 makes the part CONFIGURED with its table, mask and speed,
gives the Log Writer its ring and sets the flag; otherwise the Window Map is unchanged and what the Log Writer held is discarded. The
fields of a valid page 1 come into force with their source and flag; otherwise the calibration stays. Of either page, a failed read, or
an invalid page on a sealed part, is one MEMORY finding. After page 0 comes page 1; after page 1 slot A while CONFIGURED, and otherwise
the latches are loaded, all CLEAR but for a present CASE or COVER condition and the waiting findings (R150), and the job ends with its
restore. That page 1 is read whole, and that the mirror pointer stands behind the whole of page 0, is log entry 52 (DESIGN CHOICE). -/
def Obligations.PagesDecideLayoutAndCalibration : Prop :=
  ∀ (s : State) (r : ReadResult 128) (run : JobRun), s.Settled → s.path.owner = .own → s.path.run = some run →
    s.path.stopOwed = false →
    (run.stage = .readPage0 → ∃ t, exec (.page0ReadDone r) s = .next t ∧
        t = { s with
          lines := s.said none none [s.own (.read 128 128)]
          path := { s.path with
            run := some { run with stage := .readPage1 }, pollTime := 0, mirror := t.path.mirror, jobs := t.path.jobs }
          sto := { s.sto with waiting := t.sto.waiting, stage := t.sto.stage }
          eng := { s.eng with
            lowFlag := t.eng.lowFlag, repCredit := t.eng.repCredit, repLow := t.eng.repLow, repUnset := t.eng.repUnset }
          win := t.win, tam := t.tam, sw := t.sw, log := t.log } ∧
        (∀ l, (readBytes r).bind validLayout = some l →
          t.win = { s.win with
            configured := true, table := l.table, selectMask := l.selectMask, fast := l.fast, page0Valid := true } ∧
          t.log.ring = t.win.ring ∧ t.path.mirror = some 128 ∧ t.tam.waiting = s.tam.waiting) ∧
        ((readBytes r).bind validLayout = none →
          t.win = s.win ∧ t.log.queue = [] ∧ t.log.lost = 0 ∧ t.log.recovering = false ∧
          (s.tam.loaded = false → t.tam.waiting = { s.tam.waiting with
            memory := s.tam.waiting.memory || (readBytes r).isNone || s.port.sealed }) ∧
          (s.tam.loaded = true → readBytes r = none ∨ s.port.sealed = true → t.tam.latches.memory ≠ .clear))) ∧
    (run.stage = .readPage1 → s.tam.loaded = false → ∃ t, exec (.page1ReadDone r) s = .next t ∧
        t = { s with
          lines := t.lines, win := t.win, smp := t.smp, tam := t.tam, sw := t.sw, log := t.log
          path := { s.path with run := t.path.run, pollTime := 0, mirror := t.path.mirror, jobs := t.path.jobs }
          sto := { s.sto with waiting := t.sto.waiting, stage := t.sto.stage }
          sup := { s.sup with step := t.sup.step, restoreDone := t.sup.restoreDone } } ∧
        t.win = (match (readBytes r).bind validCalibration with
          | some c => { s.win with cal := c, calFromPage1 := true, page1Valid := true }
          | none => s.win) ∧
        (s.win.configured = true →
          t.path.run = some { run with stage := .readSlotA } ∧ t.smp = s.smp ∧ t.sup = s.sup ∧
          t.lines = s.said none none [s.own (.read (pageAddr (s.win.slotPage .a)) 64)] ∧
          t.tam = { s.tam with waiting := { s.tam.waiting with memory := s.tam.waiting.memory ||
            (((readBytes r).bind validCalibration).isNone && ((readBytes r).isNone || s.port.sealed)) } }) ∧
        (s.win.configured = false →
          t.path.run = some { run with stage := .restore } ∧ t.sup.step = .coldCalRestore ∧ t.tam.loaded = true ∧
          t.lines = s.said none none [s.own (.write (s.path.hostPtr.getD 0) [])] ∧
          t.tam.waiting = .cold ∧
          t.tam.latches = { Latches.cold with
            caseOpen := if s.tam.caseCond then .active else .clear
            cover := if s.tam.coverCond then .active else .clear
            relay := if s.tam.waiting.relay then .held else .clear
            port := if s.tam.waiting.port then .held else .clear
            memory := if s.tam.waiting.memory = true ∨ (((readBytes r).bind validCalibration).isNone = true ∧
              (readBytes r = none ∨ s.port.sealed = true)) then .held else .clear
            path := if s.tam.waiting.path then .held else .clear }))

/-! ## Chapter 3: sampling -/

/-- LOOP_LOCK and CALIBRATION_DONE (R39, R41, R52, R178, R179): a LOCKING loop becomes LOCKED with the filter UNSETTLED; in the
cold-start sequence the START-UP READS job is asked for, and at hold exit, or where an order is kept, calibration begins. When it is
done the measurement replaces the internal correction and frames begin at position 0. At hold exit the START-UP READS job for the check
is then asked for; at a cold start whose restore has ended, POWER_UP (COLD) is raised and the relay check's capture is requested. -/
def Obligations.LockAndCalibrationGoOn : Prop :=
  ∀ (s : State) (measured : BitVec 16), s.Settled →
    (s.smp.loop ≠ .locking → exec .loopLock s = .next { s with lines := s.said none none [] }) ∧
    (s.smp.loop = .locking → exec .loopLock s =
      let begins := s.smp.conv = .uncalibrated ∧ (s.smp.calOrdered = true ∨ s.sup.step = .exitLock)
      .next { s with
        lines := s.said none none []
        smp := { s.smp with
          loop := .locked, zc := .unsettled, zcCount := 0
          conv := if begins then .calibrating else s.smp.conv
          calOrdered := if begins then false else s.smp.calOrdered
          calTime := if begins then 0 else s.smp.calTime }
        path := { s.path with jobs := if s.sup.step = .coldClocks then s.path.withJob .startUpReads else s.path.jobs }
        sup := { s.sup with
          step := if s.sup.step = .coldClocks then .coldReads else if s.sup.step = .exitLock then .exitCal
            else s.sup.step } }) ∧
    (s.smp.conv = .calibrating →
      let smp := { s.smp with conv := .calibrated, correction := measured, calTime := 0, framePos := 0 }
      (s.sup.step = .exitCal → exec (.calibrationDone measured) s = .next { s with
        lines := s.said none none []
        smp := smp
        sup := { s.sup with step := .exitCheck }
        path := { s.path with jobs := s.path.withJob .startUpReads } }) ∧
      (s.sup.step ≠ .exitCal → (s.sup.step ≠ .coldCalRestore ∨ s.sup.restoreDone = false) →
        exec (.calibrationDone measured) s = .next { s with lines := s.said none none [], smp := smp }) ∧
      (s.sup.step = .coldCalRestore → s.sup.restoreDone = true → ∃ t, exec (.calibrationDone measured) s = .next t ∧
        t = { s with
          lines := s.said none none []
          smp := { smp with
            capture := t.smp.capture, capCount := t.smp.capCount, capMax := t.smp.capMax, capSum := t.smp.capSum }
          sup := { s.sup with step := .coldRelayCheck }
          sw := { s.sw with check := t.sw.check }
          log := t.log
          path := { s.path with jobs := t.path.jobs } } ∧
        (s.smp.capture = .idle → s.sup.phase ≠ .held → t.smp.capture = .waiting ∧ t.sw.check = .waiting) ∧
        (s.LogsEvents → t.log.queue = s.log.queue ++ [eventRec .powerUp 1 s.log.nextNo s])))

/-- LOSS_OF_LOCK (R40, R41, R47): while frames run, the block is discarded with a pending limit in force, METERING_GAP is raised, a
RUNNING capture is given up and asked for again by whoever waits for it, the filter is UNSETTLED, and the loop is LOCKING with the
converter still CALIBRATED. During calibration it is abandoned with its order kept, and no event is raised. What a count has made due is
taken first (log entry 8, DEDUCED), but for a rising crossing, which the filter's reset drops (log entry 48, DESIGN CHOICE). -/
def Obligations.LossOfLockDropsBlock : Prop :=
  ∀ s : State, s.Settled → s.smp.loop = .locked →
    (s.smp.conv = .calibrated → (takeDue s).smp.loop = .locked → (takeDue s).smp.conv = .calibrated → (takeDue s).CaughtUp →
      exec .lossOfLock s = exec .lossOfLock (takeDue s)) ∧
    (s.smp.conv ≠ .calibrated → exec .lossOfLock s = .next { s with
      lines := s.said none none []
      smp := { s.smp with
        loop := .locking, zc := .unsettled, zcCount := 0
        conv := .uncalibrated
        calOrdered := s.smp.calOrdered || s.smp.conv = .calibrating
        calTime := if s.smp.conv = .calibrating then 0 else s.smp.calTime } }) ∧
    (s.smp.conv = .calibrated → s.CaughtUp → ∃ t, exec .lossOfLock s = .next t ∧
      t.smp = { s.smp with
        loop := .locking, zc := .unsettled, zcCount := 0
        framePos := 0, blockDue := false, blockMax := 0, blockHas := false, ilSum := 0
        capture := t.smp.capture, capCount := t.smp.capCount, capMax := t.smp.capMax, capSum := t.smp.capSum } ∧
      (s.smp.capture = .waiting → t.smp.capture = .waiting) ∧ t.smp.capture ≠ .running ∧
      (s.smp.capture = .running → (s.sw.check = .waiting ∨ ∃ o, s.sw.op = some o ∧ o.step = .capture) →
        s.sup.phase ≠ .held → t.smp.capture = .waiting ∧ t.smp.capCount = 0) ∧
      t.eng = { s.eng with
        sl := 0, sn := 0, limit := s.eng.pendingLimit.getD s.eng.limit, pendingLimit := none } ∧
      t = { s with
        lines := s.said none none [], smp := t.smp, eng := t.eng, log := t.log
        path := { s.path with jobs := t.path.jobs }
        sw := { s.sw with
          op := t.sw.op, check := t.sw.check, overRun := if s.eng.pendingLimit.isSome then 0 else s.sw.overRun } } ∧
      (s.LogsEvents → t.log.queue = s.log.queue ++ [eventRec .meteringGap 0 s.log.nextNo s]))

/-- FRAME (R42, R43, R45, R46, R47, R57): each raw conversion less its channel's offset, saturated. The products join the block sums
and the line current squared its own sum; the auxiliary result goes to the rotation's channel, which moves on, or to the capture,
which leaves the rotation where it was. After frame 63 the position is 0 and the block's end is due. No frame comes unless the loop
is LOCKED and the converter CALIBRATED. What a count has made due is taken before the frame (log entry 8, DEDUCED). -/
def Obligations.FrameIsTaken : Prop :=
  ∀ (s : State) (v iL iN aux : BitVec 16), s.Quiet →
    let sat := fun (raw : BitVec 16) (offset : Int) =>
      if raw.toInt - offset < -32768 then -32768 else if 32767 < raw.toInt - offset then 32767 else raw.toInt - offset
    let c := s.win.cal
    let il := sat iL c.offIL
    (s.smp.loop ≠ .locked ∨ s.smp.conv ≠ .calibrated →
      exec (.frame v iL iN aux) s = .next { s with lines := s.said none none [] }) ∧
    (s.smp.loop = .locked → s.smp.conv = .calibrated → (takeDue s).smp.loop = .locked → (takeDue s).smp.conv = .calibrated →
      (takeDue s).CaughtUp → exec (.frame v iL iN aux) s = exec (.frame v iL iN aux) (takeDue s)) ∧
    (s.smp.loop = .locked → s.smp.conv = .calibrated → s.CaughtUp →
      let after := { s.smp with
        ilSum := s.smp.ilSum + (il * il).natAbs
        framePos := if s.smp.framePos = 63 then 0 else s.smp.framePos + 1
        blockDue := s.smp.framePos = 63 }
      exec (.frame v iL iN aux) s = .next { s with
        lines := s.said none none []
        eng := { s.eng with
          sl := s.eng.sl + sat v c.offV * il
          sn := s.eng.sn + sat v c.offV * sat iN c.offIN }
        smp := if s.smp.capture ≠ .idle then { after with
              capture := .running
              capCount := s.smp.capCount + 1
              capMax := max s.smp.capMax (sat aux c.offLoadv).natAbs
              capSum := s.smp.capSum + (il * il).natAbs }
          else match s.smp.rot with
            | .hall => { after with
                rot := .temp
                hall := s.smp.hall.count (3, 48)
                  (if sat aux c.offHall < c.hLo ∨ c.hHi < sat aux c.offHall then .active else .absent) }
            | .temp => { after with
                rot := .loadv
                temp := s.smp.temp.count (8, 8)
                  (if c.tTrip < sat aux c.offTemp then .active
                   else if sat aux c.offTemp < c.tClear then .absent else .neither) }
            | .loadv => { after with
                rot := .hall
                blockMax := max s.smp.blockMax (sat aux c.offLoadv).natAbs
                blockHas := true } })

/-- MONITOR_STATE_CHANGE (R48 to R51, R125, R140, R153): the lengths are 3 and 48 for HALL, 8 and 8 for TEMP, 5 and 5 for LOADV. A run
that has reached its length changes the state and returns to 0. HALL goes to the MAGNET condition, with its latch, its event, the trip
condition and the LATCH request (R149, R160, R162; log entry 34, DEDUCED); TEMP makes THERMAL follow, behind
an overload trip that is due (log entry 8, DEDUCED); LOADV is for the Switch Controller's open periods alone: there ACTIVE reports BYPASS
present, unless RELAY was found in the period, and ABSENT reports it absent. -/
def Obligations.MonitorChangesState : Prop :=
  ∀ (s : State) (m : Monitor), s.Settled →
    let run := if (s.smp.monitor m).active then (s.smp.monitor m).absentRun else (s.smp.monitor m).activeRun
    let length := match m with
      | .hall => if s.smp.hall.active then 48 else 3
      | .temp => 8
      | .loadv => 5
    (run < length → exec (.monitorStateChange m) s = .next { s with lines := s.said none none [] }) ∧
    (length ≤ run → ∃ t, exec (.monitorStateChange m) s = .next t ∧
      t.smp = s.smp.setMonitor m (if (s.smp.monitor m).active then { s.smp.monitor m with active := false, absentRun := 0 }
        else { s.smp.monitor m with active := true, activeRun := 0 }) ∧
      t = { s with
        lines := s.said none none [], smp := t.smp, tam := t.tam, sw := t.sw, log := t.log
        path := { s.path with jobs := t.path.jobs }
        sto := { s.sto with waiting := t.sto.waiting, stage := t.sto.stage, further := t.sto.further } } ∧
      (m = .hall → t.tam.magnet = (!s.smp.hall.active) ∧ ConditionTaken s t .magnet (!s.smp.hall.active)) ∧
      (m = .temp → s.sw.awaitRecord = false → t.sw.tempHot = (!s.smp.temp.active) ∧
        t.sw.reasons = { s.sw.reasons with
          thermal := !s.smp.temp.active
          limit := s.sw.reasons.limit || (250 ≤ s.sw.overRun && !s.smp.temp.active && !s.sw.reasons.thermal) }) ∧
      (m = .loadv → s.sw.openPeriod = false → t.sw = s.sw ∧ t.tam = s.tam) ∧
      (m = .loadv → s.sw.openPeriod = true → s.sw.relay = .opened →
        let reported := s.smp.loadv.active = false ∧ s.sw.relayFound = false
        let reports := (reported ∧ s.sw.bypass = false) ∨ (s.smp.loadv.active = true ∧ s.sw.bypass = true)
        t.sw.bypass = (if reported then true else if s.smp.loadv.active then false else s.sw.bypass) ∧
        (reports → t.tam.bypass = t.sw.bypass ∧
          ConditionTaken { s with sw := { s.sw with bypass := t.sw.bypass } } t .bypass t.sw.bypass) ∧
        (¬ reports → t.sw = s.sw ∧ t.tam = s.tam ∧ t.log = s.log ∧ t.sto = s.sto)))

/-- ZC_FILTER_SETTLE and RISING_CROSSING (R52, R53, R133): the filter's moves return its count to 0; LOW to HIGH is the only one with
an event, which ends a crossing wait with the zero-cross delay and passes otherwise. -/
def Obligations.ZeroCrossingFilterMoves : Prop :=
  ∀ (s : State) (high : Bool), s.Quiet → s.smp.loop = .locked →
    (s.smp.zc = .unsettled ∨ (s.smp.zc = .high ∧ high = false) → exec (.zcFilterSettle high) s = .next { s with
      lines := s.said none none []
      smp := { s.smp with zc := if high then .high else .low, zcCount := 0 } }) ∧
    (s.smp.zc = .low → exec .risingCrossing s = .next { s with
      lines := s.said none none []
      smp := { s.smp with zc := .high, zcCount := 0 }
      sw := { s.sw with op := s.sw.op.map fun o => match o.step with
        | .crossingWait _ => { o with step := .delay (halfMs s.win.cal.zcDelay) }
        | .delay _ | .pulse _ | .settle _ | .capture | .retry => o } }) ∧
    (s.smp.zc ≠ .low → exec .risingCrossing s = .next { s with lines := s.said none none [] })

/-! ## Chapter 4: energy and charge -/

/-- BLOCK_END (R44, R57 to R73): the energy of a block, from its sums to the credit balance, by the manual's own arithmetic. -/
def Obligations.BlockEndCharges : Prop :=
  ∀ s : State, s.Settled → s.smp.blockDue = true →
    let c := s.win.cal
    let e := s.eng
    let el := e.sl.natAbs * c.gl
    let en := e.sn.natAbs * c.gn
    let creep := if max el en * 180 < c.pCreep * 2 ^ 48 then 0 else max el en
    let billed := if s.tam.latches.magnet = .active then max creep (c.pPen * 2 ^ 48 / 180) else creep
    let n := (e.fine + billed) / 2 ^ 48
    let k := 1000000 - e.cumulative % 1000000
    let crosses := k ≤ n ∧ e.cumulative + k < 2 ^ 48
    let q := e.charge + if crosses then k * e.rate + (n - k) * e.pendingRate.getD e.rate else n * e.rate
    let m := q / 1000000
    let floor : Int := if e.ec = .available then 0 else -(e.allow : Int)
    ∃ t, exec .blockEnd s = .next t ∧ t.eng.sl = 0 ∧ t.eng.sn = 0 ∧
      t.eng.winCount = e.winCount + 1 ∧ t.eng.winSum = e.winSum + billed ∧ t.eng.power = e.power ∧
      t.eng.limit = e.pendingLimit.getD e.limit ∧ t.eng.pendingLimit = none ∧
      t.eng.allow = e.allow ∧ t.eng.pendingAllow = e.pendingAllow ∧ t.eng.account = e.account ∧
      (e.account = false → t.eng.fine = e.fine ∧ t.eng.cumulative = e.cumulative ∧ t.eng.charge = e.charge ∧
        t.eng.credit = e.credit ∧ t.eng.shortfall = e.shortfall ∧ t.eng.spend = e.spend ∧ t.eng.rate = e.rate ∧
        t.eng.pendingRate = e.pendingRate ∧ t.eng.ec = e.ec) ∧
      (e.account = true →
        t.eng.fine = (e.fine + billed) % 2 ^ 48 ∧ t.eng.cumulative = min (e.cumulative + n) (2 ^ 48 - 1) ∧
        t.eng.charge = q % 1000000 ∧
        t.eng.rate = (if crosses then e.pendingRate.getD e.rate else e.rate) ∧
        t.eng.pendingRate = (if crosses then none else e.pendingRate) ∧
        t.eng.credit = (if floor ≤ e.credit - m then e.credit - m else floor) ∧
        t.eng.shortfall = (if floor ≤ e.credit - m then e.shortfall
          else min (e.shortfall + (m - (e.credit - floor)).toNat) 4294967295) ∧
        t.eng.spend = min (e.spend + m) 4294967295 ∧
        t.eng.ec = (if e.ec = .inUse ∧ t.eng.credit = -(e.allow : Int) then .spent else e.ec))

/-- BLOCK_END (R44, R51, R58, R62, R63, R66, R73, R75, R125, R139, R141, R143, R154, R155): what the other blocks take from a block: the
run counts of the Tamper Monitor on blocks above creep, the overload run, the IL run, and the LOADV judgement; CREDIT and LOWCR as the
credit balance then stands; RATE_ACTIVE, then EC_SPENT; the BOUNDARY and the EC request, and the SPEND request that is due. A run that
reaches 250 trips before the credit condition or a new limit clears it (R141, R147; log entry 8). The block's own values start afresh. -/
def Obligations.BlockEndIsHandedOut : Prop :=
  ∀ s : State, s.Settled → s.smp.blockDue = true →
    let c := s.win.cal
    let el := s.eng.sl.natAbs * c.gl
    let en := s.eng.sn.natAbs * c.gn
    let above := c.pCreep * 2 ^ 48 ≤ max el en * 180
    let differ := max el en * c.ratio < (if el ≤ en then en - el else el - en) * 256
    let negative := if en ≤ el then s.eng.sl < 0 else s.eng.sn < 0
    let tooMuch := above ∧ 0 < s.eng.limit ∧ s.eng.limit * 2 ^ 48 < max el en * 180
    let billed := if s.tam.latches.magnet = .active then max (if above then max el en else 0) (c.pPen * 2 ^ 48 / 180)
      else if above then max el en else 0
    let k := 1000000 - s.eng.cumulative % 1000000
    let crosses := s.eng.account = true ∧ k ≤ (s.eng.fine + billed) / 2 ^ 48 ∧ s.eng.cumulative + k < 2 ^ 48
    let counted := s.sw.relay = .closed ∧ s.sw.held = false
    let trips := 250 ≤ (if counted then (if tooMuch then min (s.sw.overRun + 1) 250 else 0) else s.sw.overRun)
    ∃ t, exec .blockEnd s = .next t ∧
      t = { s with
        lines := s.said none none [], smp := t.smp, eng := t.eng, sw := t.sw, log := t.log
        tam := { s.tam with
          imbPresent := t.tam.imbPresent, imbAbsent := t.tam.imbAbsent, revPresent := t.tam.revPresent
          revAbsent := t.tam.revAbsent, bypass := t.tam.bypass, latches := { s.tam.latches with bypass := t.tam.latches.bypass } }
        path := { s.path with jobs := t.path.jobs }
        sto := { s.sto with waiting := t.sto.waiting, stage := t.sto.stage } } ∧
      t.smp = { s.smp with
        framePos := 0, blockDue := false, blockMax := 0, blockHas := false, ilSum := 0
        loadv := if s.smp.blockHas then s.smp.loadv.count (5, 5) (if c.vOn ≤ s.smp.blockMax then .active else .absent)
          else s.smp.loadv } ∧
      t.tam.imbPresent = (if above then (if differ then min (s.tam.imbPresent + 1) 50 else 0) else s.tam.imbPresent) ∧
      t.tam.imbAbsent = (if above then (if differ then 0 else min (s.tam.imbAbsent + 1) 50) else s.tam.imbAbsent) ∧
      t.tam.revPresent = (if above then (if negative then min (s.tam.revPresent + 1) 50 else 0) else s.tam.revPresent) ∧
      t.tam.revAbsent = (if above then (if negative then 0 else min (s.tam.revAbsent + 1) 50) else s.tam.revAbsent) ∧
      (counted → s.eng.pendingLimit = none → t.sw.relay = .closed → ¬ trips ∨ t.eng.repCredit = s.eng.repCredit →
        t.sw.overRun = if tooMuch then min (s.sw.overRun + 1) 250 else 0) ∧
      (s.eng.pendingLimit.isSome = true → t.sw.overRun = 0) ∧
      (s.sw.openPeriod = true → t.sw.openPeriod = true →
        t.sw.ilRun = if 50 ≤ s.sw.ilRun then s.sw.ilRun
          else if 64 * c.creepCurrent ^ 2 ≤ s.smp.ilSum then s.sw.ilRun + 1 else 0) ∧
      (t.eng.repCredit = decide (s.eng.account = true ∧
        t.eng.credit ≤ (if t.eng.ec = .available then 0 else -(t.eng.allow : Int)))) ∧
      (s.sw.awaitRecord = false → t.eng.repCredit ≠ s.eng.repCredit → t.sw.reasons.credit = t.eng.repCredit) ∧
      (s.sw.awaitRecord = false → t.eng.repCredit ≠ s.eng.repCredit → s.sw.reasons.credit ≠ t.eng.repCredit → t.Owes 6) ∧
      (s.sw.awaitRecord = false → s.eng.repCredit = false → t.eng.repCredit = true → s.sw.reasons.credit = false →
        counted → s.sw.op = none →
        t.sw.relay = .opening ∧ t.sw.armed = false ∧
        t.sw.op = some (startedOp (some (if trips ∧ s.sw.reasons.limit = false then .limit else .credit)))) ∧
      (t.eng.repCredit = s.eng.repCredit → s.eng.pendingLimit = none → t.sw.reasons = s.sw.reasons ∧ t.sw.op = s.sw.op) ∧
      (trips → (s.sw.awaitRecord = false ∧ s.sw.reasons.credit = false ∧ s.eng.repCredit = false ∧ t.eng.repCredit = true) ∨
          s.eng.pendingLimit.isSome = true →
        t.sw.reasons.limit = true ∧ t.sw.retry = min (s.sw.retry + 1) 4 ∧ t.sw.overRun = 0) ∧
      (t.eng.lowFlag = decide (s.eng.account = true ∧ t.eng.credit < c.wLow)) ∧ t.eng.repLow = t.eng.lowFlag ∧
      (t.eng.lowFlag = s.eng.repLow → t.sw.lowcr = s.sw.lowcr) ∧
      (t.eng.lowFlag ≠ s.eng.repLow → t.sw.lowcr = (t.eng.lowFlag && s.sup.phase != .held)) ∧
      (s.log.recovering = false → s.log.ring.isSome = true → s.log.queue.length < 7 →
        t.log.queue.map (fun e => (e.kind, e.detail.toNat, e.cumulative, e.credit)) =
          s.log.queue.map (fun e => (e.kind, e.detail.toNat, e.cumulative, e.credit)) ++
          (if crosses ∧ s.eng.pendingRate.isSome = true then
            [(.rateActive, 0, t.eng.cumulative, t.eng.credit)] else []) ++
          (if s.eng.ec = .inUse ∧ t.eng.ec = .spent then [(.ecSpent, 0, t.eng.cumulative, t.eng.credit)] else [])) ∧
      (¬ (crosses ∧ s.eng.pendingRate.isSome = true) → ¬ (s.eng.ec = .inUse ∧ t.eng.ec = .spent) → t.log = s.log) ∧
      (crosses → t.Owes 8) ∧ (s.eng.ec = .inUse → t.eng.ec = .spent → t.Owes 7) ∧
      (t.eng.spendDue = true ↔ s.eng.spendDue = true ∨ (s.eng.spend < 1000 ∧ 1000 ≤ t.eng.spend))

/-- SPEND_THRESHOLD and LIVE_POWER_UPDATE (R70, R79, R86, R87): the SPEND request becomes the waiting one with a COMMIT job; behind a
request that waits it is merged, since no trigger has a lower rank; without an account it is discarded. At 50 blocks live power is the
window's average and the window starts afresh. At the end of the generations the request is ended at once as a second failure, with
spend-since-commit 0: no job is added, a held change is discarded with its code at STORE, and a LOADED or VOID account becomes
STORE_FAULT (R85, R94, R119). A warning then enters HOLD at once (R176). -/
def Obligations.SpendAndPowerAreTaken : Prop :=
  ∀ s : State, (s.Quiet → (s.path.owner = .host → s.path.holdTime < ms 50) → s.sto.generationEnded = true →
      s.eng.spendDue = true → s.sto.state ≠ .noAccount →
      let faults := s.sto.state = .loaded ∨ s.sto.state = .void
      ∃ t, exec .spendThreshold s = .next t ∧
        t = { s with
          lines := s.said none none []
          eng := { s.eng with spend := 0, spendDue := false }
          sto := { s.sto with
            state := if faults then .storeFault else s.sto.state
            held := none, carried := none, snapshot := none, attempt := 1 }
          dec := t.dec, sw := t.sw, log := t.log
          tam := { s.tam with bypass := t.tam.bypass, latches := { s.tam.latches with bypass := t.tam.latches.bypass } }
          path := { s.path with jobs := t.path.jobs } } ∧
        (∀ k ∈ t.path.jobs, k ∈ s.path.jobs ∨ k = .logAppend) ∧
        (faults → s.sw.awaitRecord = false → t.sw.reasons.store = true) ∧
        (faults → s.LogsEvents → t.log.queue = s.log.queue ++ [eventRec .commitFault 9 s.log.nextNo s]) ∧
        (¬ faults → t.log = s.log ∧ t.sw = s.sw) ∧
        (s.sto.held = none → t.dec = s.dec) ∧
        (s.sto.held.isSome = true → ∀ x, s.dec.active = some x → ∀ o ∈ t.dec.outcomes, o.entry = x.1.entry →
          o.outcome = .store ∧ o.kindSeq = some (x.2.kind.digit, x.2.seq))) ∧
    (s.Quiet → (s.path.owner = .host → s.path.holdTime < ms 50 ∧ s.pins.midByte = false) → s.sto.generationEnded = true →
      s.sto.state ≠ .noAccount → s.sup.raised = false → s.sup.phase = .running ∨ s.sup.phase = .resuming →
      ∃ t, exec .powerFailWarning s = .next t ∧ t.sup.phase = .held ∧ t.path.owner = .free ∧ t.path.causePower = true) ∧
    (s.Settled →
    (s.eng.spendDue = true → s.sto.state ≠ .noAccount → s.sto.waiting = none → exec .spendThreshold s = .next { s with
      lines := s.said none none []
      eng := { s.eng with spendDue := false }
      sto := { s.sto with waiting := some .spend, stage := if s.sto.stage = .inFlight then .inFlight else .queued }
      path := { s.path with jobs := s.path.withJob .commit } }) ∧
    (s.eng.spendDue = true → s.sto.state = .noAccount ∨ s.sto.waiting ≠ none → exec .spendThreshold s = .next { s with
      lines := s.said none none []
      eng := { s.eng with spendDue := false } }) ∧
    (50 ≤ s.eng.winCount → exec .livePowerUpdate s = .next { s with
      lines := s.said none none []
      eng := { s.eng with power := s.eng.winSum * 36 / (10 * 2 ^ 48), winCount := 0, winSum := 0 } }) ∧
    (s.eng.winCount < 50 → exec .livePowerUpdate s = .next { s with lines := s.said none none [] }))

/-! ## Chapter 5: the account record -/

/-- R83, R84, R188, R189, 12.3: every record that a commit can write is read back as it was: decoding undoes encoding, field by
field, and the record passes its own checks. -/
def Obligations.RecordIsReadAsWritten : Prop :=
  ∀ r : Record, r.Fits → r.encode.length = 64 ∧ readRecord r.encode = some r

/-- JOB_GRANT of a COMMIT or an URGENT COMMIT (R85, R88, R89, R90): the snapshot is the record of the owners' state at the grant, one
generation on, with a pending limit as its limit; a held change is carried and applied to it; the 64 bytes go to the target slot, the
one that is not verified. Spend-since-commit is 0, and the waiting request, with what was merged into it, is the in-flight trigger. Where a
condition became present just as this grant was due, its LATCH request waits with a COMMIT job for a further commit (R162; log entry 34,
DEDUCED). -/
def Obligations.GrantedCommitTakesSnapshot : Prop :=
  ∀ (s : State) (k : JobKind), s.Quiet → (k = .commit ∨ k = .urgentCommit) → nextJob s = some k → s.path.stopOwed = false →
    (s.sto.further = true → s.sto.generationEnded = false) →
    let owners : Record := {
      generation := (s.sto.verified.map generationOf).getD 0 + 1
      credit := s.eng.credit, shortfall := s.eng.shortfall, fine := s.eng.fine, cumulative := s.eng.cumulative
      rate := s.eng.rate, pendingRate := s.eng.pendingRate, ec := s.eng.ec, allow := s.eng.allow
      pendingAllow := s.eng.pendingAllow, limit := s.eng.pendingLimit.getD s.eng.limit, charge := s.eng.charge
      relayClosed := s.sw.relay = .closed ∨ s.sw.relay = .closing
      armed := s.sw.armed, retry := s.sw.retry, reasons := s.sw.reasons
      high := s.sto.high, used := s.sto.used, latches := s.tam.latches
      head := s.log.head, appendNo := s.log.appendNo }
    let snapshot := match s.sto.held with
      | some c => owners.applyChange c
      | none => owners
    let target := if s.sto.slot = some .a then Slot.b else Slot.a
    let follows := s.sto.further = true ∧ s.sto.state ≠ .noAccount
    let jobs := s.path.jobs.filter (· != k)
    exec .jobGrant s = .next { s with
      lines := s.said none none [s.own (.write (pageAddr (s.win.slotPage target)) snapshot.encode)]
      eng := { s.eng with spend := 0, spendDue := false }
      sto := { s.sto with
        stage := .inFlight, attempt := 1, snapshot := some snapshot, inTrigger := s.sto.waiting
        waiting := if follows then some .latch else none
        carried := s.sto.held, held := none, further := false }
      path := { s.path with
        owner := .own, run := some { kind := k, stage := .commitWrite }, segOpen := false, pollTime := 0, clockLowTime := 0
        jobs := if follows ∧ .commit ∉ jobs then jobs ++ [.commit] else jobs } }

/-- R74, R89, R113: what a carried change does to the snapshot, by its kind; its sequence number enters the code history. -/
def Obligations.CarriedChangeOnSnapshot : Prop :=
  ∀ (r : Record) (c : Change),
    let credit := min (r.credit + c.value * 10) 999999999
    let repaid := r.ec ≠ .available ∧ (r.allow : Int) ≤ credit
    let t := r.applyChange c
    ((t.high, t.used) = joinSeq r.high r.used c.seq) ∧
    (c.kind = .credit → t = { r with
      high := t.high, used := t.used, credit := credit
      ec := if repaid then .available else r.ec
      allow := if repaid then r.pendingAllow.getD r.allow else r.allow
      pendingAllow := if repaid then none else r.pendingAllow }) ∧
    (c.kind = .rate → t = { r with
      high := t.high, used := t.used
      rate := if r.rate = 0 then c.value else r.rate
      pendingRate := if r.rate = 0 then none else some c.value }) ∧
    (c.kind = .limit → t = { r with high := t.high, used := t.used, limit := c.value }) ∧
    (c.kind = .allowance → t = { r with
      high := t.high, used := t.used
      allow := if r.ec = .available then c.value * 10 else r.allow
      pendingAllow := if r.ec = .available then r.pendingAllow else some (c.value * 10) }) ∧
    (c.kind = .clear → t = { r with high := t.high, used := t.used, latches := t.latches } ∧
      ∀ k ∈ tamperKinds, t.latches.get k =
        if c.value / 2 ^ k.num % 2 = 1 ∧ r.latches.get k = .held then .clear else r.latches.get k)

/-- R112, R113: a sequence number is judged against H and the used-set by the first case of R112 that holds; joined, it is in the
set, H is at least it, and just the numbers at or below H - 64 have left. -/
def Obligations.SequenceNumbersAreUsedOnce : Prop :=
  ∀ (high : Nat) (used : BitVec 64) (n : Nat),
    (judgeSeq high used n = .fresh ↔ high ≠ 99999 ∧ n ≠ 0 ∧ (high < n ∨ (¬ inUsedSet high used n ∧ high < n + 64))) ∧
    (judgeSeq high used n = .used ↔ high ≠ 99999 ∧ n ≠ 0 ∧ inUsedSet high used n) ∧
    (high < n + 64 →
      let joined := joinSeq high used n
      joined.1 = max high n ∧
      ∀ m, inUsedSet joined.1 joined.2 m ↔ (m = n ∨ inUsedSet high used m) ∧ joined.1 < m + 64)

/-- COMMIT_READBACK_DONE (R77, R91, R92, R117, R118, R161): 64 bytes that agree make the snapshot the verified copy in the target slot,
with its code history, and the account LOADED; a carried change acts on the live account as it then stands. A CLEAR takes each named
latch that is HELD to CLEAR, with TAMPER_CLEARED (in the order of k: log entry 33, DESIGN CHOICE), and leaves every other latch; the
BYPASS condition ends only where the part's own relay starts to open. The code's record becomes ACCEPTED, but PARTIAL just where a
named latch is ACTIVE at the success, with the set of those as its detail; TOKEN_ACCEPTED is raised last, with the kind digit. The job
ends with its restore. -/
def Obligations.CommitSucceeds : Prop :=
  ∀ (s : State) (run : JobRun) (r : ReadResult 64) (rec : Record), s.Settled → s.path.owner = .own → s.path.run = some run →
    s.path.stopOwed = false → run.stage = .commitRead → s.sto.snapshot = some rec → readBytes r = some rec.encode →
    generationOf rec.encode ≠ 4294967295 →
    let e := s.eng
    let names := fun (k : TamperKind) => s.sto.carried.any fun c => c.kind = .clear && c.value / 2 ^ k.num % 2 = 1
    let cleared := fun (k : TamperKind) => names k && s.tam.latches.get k = .held
    let shown := fun (r : EventRec) => (r.kind, r.detail.toNat, r.cumulative, r.credit)
    ∃ t, exec (.commitReadbackDone r) s = .next t ∧
      t = { s with
        lines := s.said none none [s.own (.write (s.path.hostPtr.getD 0) [])]
        path := { s.path with
          run := some { run with stage := .restore }, pollTime := 0, mirror := t.path.mirror, jobs := t.path.jobs }
        sto := t.sto, eng := t.eng, dec := t.dec, sw := t.sw, log := t.log
        tam := { s.tam with latches := t.tam.latches, bypass := t.tam.bypass, tripReported := t.tam.tripReported } } ∧
      t.sto.verified = some rec.encode ∧ t.sto.slot = some (if s.sto.slot = some .a then .b else .a) ∧
      t.sto.high = rec.high ∧ t.sto.used = rec.used ∧ t.sto.carried = none ∧ t.sto.snapshot = none ∧
      t.sto.state = (if s.sto.state = .noAccount then .noAccount else .loaded) ∧
      t.eng.fine = e.fine ∧ t.eng.cumulative = e.cumulative ∧ t.eng.charge = e.charge ∧ t.eng.shortfall = e.shortfall ∧
      (s.sto.state = .void ∨ s.sto.state = .storeFault → s.sw.awaitRecord = false →
        t.sw.account = .loaded ∧ t.sw.reasons.store = false) ∧
      (∀ k ∈ tamperKinds, k ≠ .bypass ∨ s.sw.relay ≠ .closed → t.tam.latches.get k =
        if cleared k then .clear else s.tam.latches.get k) ∧
      (s.sto.carried = none → t.eng = e ∧ t.dec = s.dec ∧ t.log.queue = s.log.queue) ∧
      (∀ c, s.sto.carried = some c →
        (c.kind ≠ .credit → t.eng.credit = e.credit) ∧
        (c.kind = .credit → t.eng.credit = min (e.credit + c.value * 10) 999999999 ∧
          (e.ec ≠ .available → (e.allow : Int) ≤ t.eng.credit →
            t.eng.ec = .available ∧ t.eng.allow = e.pendingAllow.getD e.allow ∧ t.eng.pendingAllow = none)) ∧
        (c.kind = .rate → t.eng.rate = (if e.rate = 0 then c.value else e.rate) ∧
          t.eng.pendingRate = (if e.rate = 0 then none else some c.value)) ∧
        (c.kind = .limit → t.eng.limit = e.limit ∧ t.eng.pendingLimit = some c.value) ∧
        (c.kind = .allowance →
          (e.ec = .available → t.eng.allow = c.value * 10 ∧ t.eng.pendingAllow = e.pendingAllow) ∧
          (e.ec ≠ .available → t.eng.allow = e.allow ∧ t.eng.pendingAllow = some (c.value * 10))) ∧
        (c.kind = .clear → t.eng = { e with repCredit := t.eng.repCredit } ∧
          ∀ k ∈ tamperKinds, c.value / 2 ^ k.num % 2 = 1 → s.tam.latches.get k = .held → t.tam.latches.get k = .clear) ∧
        (∀ x, s.dec.active = some x → x.2.kind = c.kind →
          let left := fun (k : TamperKind) => names k && t.tam.latches.get k = .active
          (∀ o ∈ t.dec.outcomes, o.entry = x.1.entry →
            o.kindSeq = some (x.2.kind.digit, x.2.seq) ∧
            (tamperKinds.any left = false → o.outcome = .accepted ∧ o.detail = none) ∧
            (tamperKinds.any left = true → o.outcome = .partialDone ∧ ∃ d, o.detail = some d ∧
              ∀ k ∈ tamperKinds, d.getLsbD k.num = left k)) ∧
          let raised := (tamperKinds.filter cleared).map (fun k => (EventKind.tamperCleared, k.num)) ++
            (if c.kind = .rate ∧ e.rate = 0 then [(.rateActive, 0)] else []) ++ [(.tokenAccepted, x.2.kind.digit)]
          (s.log.recovering = false → s.log.ring.isSome = true → s.log.queue.length + raised.length ≤ 8 →
            t.log.queue.map shown =
              s.log.queue.map shown ++ raised.map fun r => (r.1, r.2, t.eng.cumulative, t.eng.credit))))

/-- Attempt 2 (R90, R91, R94, R119): bytes that differ at COMMIT_READBACK_DONE, a write that the memory refuses at COMMIT_WRITE_DONE, a
poll that reaches its limit and, with its STOP owed (R18), the clock fault make the commit fail: the verified copy, its slot and the code
history are kept, a LOADED or VOID account becomes STORE_FAULT with the STORE reason, COMMIT_FAULT is raised with the trigger, and a
carried change is discarded with its code's record at STORE. The job ends with its restore. The mirror pointer after a read that ended at
a select is log entry 22 (DEDUCED), the restore that waits behind the STOP owed is log entry 35 (DESIGN CHOICE), and the second write
that goes out with its own refusal log entry 24 (DESIGN CHOICE). -/
def Obligations.CommitFails : Prop :=
  ∀ (s : State) (run : JobRun) (c : Instr) (r : ReadResult 64) (w : WriteResult), s.Settled → s.path.owner = .own →
    s.path.run = some run → s.path.stopOwed = false → s.sto.attempt ≠ 1 →
    (c = .commitReadbackDone r ∧ run.stage = .commitRead ∧ readBytes r ≠ some s.sto.snapshotBytes) ∨
    (c = .commitWriteDone w ∧ (run.stage = .commitPrePoll ∨ run.stage = .commitWrite) ∧ w ≠ .acked) ∨
    ((c = .pollTimeout ∨ c = .memoryClockFault) ∧ (run.stage = .commitPrePoll ∨ run.stage = .commitWrite ∨
      run.stage = .commitPoll ∨ run.stage = .commitRead)) →
    let restore := [s.own (.write (s.path.hostPtr.getD 0) [])]
    let fault := c = .memoryClockFault
    let second := if run.stage = .commitPrePoll ∧ c = .commitWriteDone w then
      [s.own (.write (s.slotAddress s.sto.target) s.sto.snapshotBytes)] else []
    ∃ t, exec c s = .next t ∧
      t = { s with
        lines := s.said none none (if fault then [] else second ++ restore)
        path := { s.path with
          run := some { run with stage := .restore }, pollTime := 0, mirror := t.path.mirror, jobs := t.path.jobs
          stopOwed := fault, behind := if fault then restore else s.path.behind
          clockLowTime := if fault then 0 else s.path.clockLowTime }
        sto := t.sto, dec := t.dec, sw := t.sw, tam := t.tam, log := t.log } ∧
      t.path.mirror = (match c with
        | .commitReadbackDone _ => readMirror r (s.slotAddress s.sto.target) s.path.mirror
        | .pollTimeout => s.path.mirror
        | _ => none) ∧
      t.sto.verified = s.sto.verified ∧ t.sto.slot = s.sto.slot ∧ t.sto.high = s.sto.high ∧ t.sto.used = s.sto.used ∧
      t.sto.carried = none ∧ t.sto.snapshot = none ∧
      t.sto.state = (if s.sto.state = .loaded ∨ s.sto.state = .void then .storeFault else s.sto.state) ∧
      (s.sto.state = .loaded ∨ s.sto.state = .void → s.sw.awaitRecord = false →
        t.sw.reasons.store = true ∧
        (s.LogsEvents → t.log.queue = s.log.queue ++
          [eventRec .commitFault (s.sto.inTrigger.getD .spend).rank s.log.nextNo s])) ∧
      (s.sto.carried = none → t.dec = s.dec) ∧
      (s.sto.carried.isSome = true → ∀ x, s.dec.active = some x → ∀ o ∈ t.dec.outcomes, o.entry = x.1.entry →
        o.outcome = .store ∧ o.kindSeq = some (x.2.kind.digit, x.2.seq))

/-- SLOT_SELECTION (R96, R97, R98; log entry 24, DESIGN CHOICE): slot A's read may end alone: its bytes are kept, or a failure of it
reported, and slot B is read. When slot B's read has ended too, by SLOT_SELECTION or by the poll limit or the clock fault, of two valid
slots the one of the higher generation is loaded, slot A where they are equal; of one valid slot that one; with none the account is
rebuilt VOID, with MEMORY latched, ACCOUNT_VOID and a VOID request. The owners take the record's fields: the Energy Engine its items
(R81), the Tamper Monitor the latches, ACTIVE taken as HELD, with CASE and COVER conditions and the waiting findings applied (R150), the
Switch Controller the relay state, LIMIT with a new delay, the retry stage and the arming, every other reason following its start-up
source (R128, R144; their order is log entry 17, DEDUCED), and the Log Writer the front of the ring, whose slots are read next. After a
clock fault that read waits behind the STOP owed (log entry 35, DESIGN CHOICE). -/
def Obligations.NewerValidSlotIsLoaded : Prop :=
  (∀ (s : State) (run : JobRun) (a : ReadResult 64), s.Settled → s.path.owner = .own → s.path.run = some run →
    s.path.stopOwed = false → run.stage = .readSlotA →
    let keeps := fun (kept : Option (List Byte)) (t : State) =>
      t = { s with
        lines := s.said none none [s.own (.read (pageAddr (s.win.slotPage .b)) 64)]
        path := { s.path with
          run := some { run with stage := .readSlotB }, pollTime := 0, mirror := t.path.mirror, jobs := t.path.jobs }
        sto := { s.sto with slotA := kept, waiting := t.sto.waiting, stage := t.sto.stage }
        sw := t.sw, tam := t.tam, log := t.log } ∧
      (kept.isSome = true → t.sw = s.sw ∧ t.tam = s.tam ∧ t.log = s.log ∧ t.sto.waiting = s.sto.waiting) ∧
      (kept = none → FindingTaken s t Latches.memory Findings.memory)
    (∃ t, exec (.slotSelection a none) s = .next t ∧ keeps (readBytes a) t) ∧
    (∃ t, exec .pollTimeout s = .next t ∧ keeps none t)) ∧
  (∀ (s : State) (run : JobRun) (a b : ReadResult 64), s.Settled → s.path.owner = .own → s.path.run = some run →
    s.path.stopOwed = false →
    let choice := fun (bytesA bytesB : Option (List Byte)) => match bytesA.bind readRecord, bytesB.bind readRecord with
      | some x, some y => some (if x.generation < y.generation then (Slot.b, y) else (Slot.a, x))
      | some x, none => some (.a, x)
      | none, some y => some (.b, y)
      | none, none => none
    let goesOn := fun (bytesA bytesB : Option (List Byte)) =>
      ((choice bytesA bytesB).all fun x => x.2.generation < 4294967295) = true
    let loads := fun (bytesA bytesB : Option (List Byte)) (fault : Bool) (t : State) =>
      let chosen := choice bytesA bytesB
      let failed := bytesB.isNone || (run.stage = .readSlotA && bytesA.isNone) || chosen.isNone
      t = { s with
        lines := s.said none none ((if run.stage = .readSlotA then [s.own (.read (pageAddr (s.win.slotPage .b)) 64)] else []) ++
          (if fault then [] else [s.own (.read (t.log.recoverySlot 0) 16)]))
        path := { s.path with
          run := some { run with stage := .readRing 0 }, pollTime := 0, mirror := t.path.mirror, jobs := t.path.jobs
          stopOwed := fault, behind := if fault then [s.own (.read (t.log.recoverySlot 0) 16)] else s.path.behind
          clockLowTime := if fault then 0 else s.path.clockLowTime }
        sto := { s.sto with
          state := t.sto.state, verified := t.sto.verified, slot := t.sto.slot, high := t.sto.high, used := t.sto.used
          slotA := none, waiting := t.sto.waiting, stage := t.sto.stage }
        eng := t.eng, sw := t.sw, log := t.log
        tam := { s.tam with
          latches := t.tam.latches, loaded := true, waiting := .cold, tripReported := t.tam.tripReported
          bypass := t.tam.bypass } } ∧
      t.HoldsRecord ∧ (∀ x, chosen = some x → s.LoadsSlot t x.1 x.2 failed ∧
        t.sto.verified = if x.1 = .a then bytesA else bytesB) ∧
      (chosen = none → s.LoadsVoid t failed)
    (run.stage = .readSlotA → goesOn (readBytes a) (readBytes b) →
      ∃ t, exec (.slotSelection a (some b)) s = .next t ∧ loads (readBytes a) (readBytes b) false t) ∧
    (run.stage = .readSlotB → goesOn s.sto.slotA (readBytes b) →
      ∃ t, exec (.slotSelection a (some b)) s = .next t ∧ loads s.sto.slotA (readBytes b) false t) ∧
    (run.stage = .readSlotB → goesOn s.sto.slotA none →
      (∃ t, exec .pollTimeout s = .next t ∧ loads s.sto.slotA none false t) ∧
      (∃ t, exec .memoryClockFault s = .next t ∧ loads s.sto.slotA none true t)))

/-- HOLD_EXIT_CHECK (R99): bytes that agree with the verified copy change nothing but the job, which ends with its restore; a
mismatch or a failed read is one MEMORY finding and a HOLD_EXIT request, with the verified copy and the account kept. -/
def Obligations.HoldExitCheckCompares : Prop :=
  ∀ (s : State) (run : JobRun) (r : ReadResult 64), s.Settled → s.path.owner = .own → s.path.run = some run →
    s.path.stopOwed = false → run.stage = .holdCheck →
    (readBytes r ≠ none → readBytes r = s.sto.verified → exec (.holdExitCheck r) s = .next { s with
      lines := s.said none none [s.own (.write (s.path.hostPtr.getD 0) [])]
      path := { s.path with
        run := some { run with stage := .restore }, pollTime := 0
        mirror := some (((s.sto.slot.map fun k => pageAddr (s.win.slotPage k)).getD 0) + 64) } }) ∧
    (readBytes r = none ∨ readBytes r ≠ s.sto.verified → ∃ t, exec (.holdExitCheck r) s = .next t ∧
      t = { s with
        lines := s.said none none [s.own (.write (s.path.hostPtr.getD 0) [])]
        path := { s.path with
          run := some { run with stage := .restore }, pollTime := 0, mirror := t.path.mirror, jobs := t.path.jobs }
        sto := { s.sto with waiting := t.sto.waiting, stage := t.sto.stage }
        sw := t.sw, tam := t.tam, log := t.log } ∧
      (s.tam.loaded = true → t.tam.latches.memory ≠ .clear) ∧
      (s.tam.loaded = false → t.tam.waiting.memory = true) ∧
      (s.sto.state ≠ .noAccount → (t.sto.waiting.map Trigger.rank).getD 9 ≤ 2))

/-! ## Chapter 6: top-up codes -/

/-- HOST_WRITE_DATA_BYTE for the INBOX page (R8, R101, R102, R104): the first byte begins a submission, with a PENDING record at the
head of the list, only at offset 0 and with a place FREE, and ends the memory-segment transaction; the next 18 are kept whatever they
are; the 20th is refused and marks the submission over length, and later ones change nothing. Nothing is forwarded. -/
def Obligations.InboxBytesMakeSubmission : Prop :=
  ∀ (s : State) (byte : Byte) (ack : Bool) (p : Submission), s.Quiet → s.path.window = some .inbox →
    let path := { s.path with phase := .writing, segOpen := false, stopping := s.path.segOpen }
    let later := { s.path with phase := .writing }
    (s.path.phase = .pointerSet → s.path.wordAddr.toNat % 128 = 0 → s.dec.places.length < 2 →
      exec (.hostWriteDataByte byte ack) s = .next { s with
        lines := s.said (some true) none s.path.openStop
        pins := s.byteOver
        path := path
        dec := { s.dec with
          places := s.dec.places ++ [
            { state := .filling, tag := byte, bytes := [], overLength := false, busError := false, entry := s.dec.nextEntry }]
          refused := false
          outcomes := ({ entry := s.dec.nextEntry, tag := byte, outcome := .pending, kindSeq := none, detail := none }
            :: s.dec.outcomes).take 4
          nextEntry := s.dec.nextEntry + 1 } }) ∧
    (s.path.phase = .pointerSet → (s.path.wordAddr.toNat % 128 ≠ 0 ∨ 2 ≤ s.dec.places.length) →
      exec (.hostWriteDataByte byte ack) s = .next { s with
        lines := s.said (some false) none s.path.openStop
        pins := s.byteOver
        path := path
        dec := { s.dec with refused := true } }) ∧
    (s.path.phase = .writing → s.dec.refused = true → exec (.hostWriteDataByte byte ack) s = .next { s with
      lines := s.said (some false) none []
      pins := s.byteOver
      path := later }) ∧
    (s.path.phase = .writing → s.dec.refused = false → s.dec.filling = some p →
      exec (.hostWriteDataByte byte ack) s = .next { s with
        lines := s.said (some (p.bytes.length < 18)) none []
        pins := s.byteOver
        path := later
        dec := { s.dec with places := s.dec.places.map fun q => if q.entry ≠ p.entry then q
          else if p.bytes.length < 18 then { q with bytes := q.bytes ++ [byte] } else { q with overLength := true } } })

/-- HOST_STOP and BUS_ERROR at the end of a submission, with no other place taken (R103, R106 to R116): the tests are made in their
order and the first that fails decides the record in place and frees the place; a code that fails none is handed over, with its place
ACTIVE and a TOKEN request. Beside an ACTIVE place the submission becomes READY and waits. When the commit of that place has succeeded,
at COMMIT_READBACK_DONE, or failed for the second time, there or at COMMIT_WRITE_DONE, POLL_TIMEOUT or MEMORY_CLOCK_FAULT, the place is
freed and the submission that waits has its turn, on the account and the code history as they then stand, with the same end as if it had
come alone then (R106, R117, R119). A bus error falls in a data byte here: in an address byte it ends a submission as a STOP does. -/
def Obligations.SubmissionHasItsTurn : Prop :=
  (∀ (s : State) (p q : Submission) (d : Change) (byStop : Bool), s.Settled → s.path.owner = .host →
    s.path.window = some .inbox → s.dec.places = [q, p] → q.state = .active d → p.state = .filling → q.entry ≠ p.entry →
    s.path.memClass = true →
    exec (if byStop then .hostStop else .busError ⟨false, false⟩) s = .next { s with
      lines := s.said none none s.path.openStop
      pins := s.byteOver
      win := s.win.noSnapshots
      path := s.path.hostGone .idle s.path.endMirror
      dec := { s.dec with
        refused := false, places := [q, { p with state := .ready, busError := p.busError || !byStop }] } }) ∧
  (∀ (s : State) (p q : Submission) (d : Change) (run : JobRun) (c : Instr) (r : ReadResult 64) (w : WriteResult), s.Settled →
    s.path.owner = .own → s.path.run = some run → s.path.stopOwed = false → s.sto.carried = some d → s.sto.held = none →
    s.sto.snapshot.isSome = true → s.dec.places = [q, p] → q.state = .active d → p.state = .ready → q.entry ≠ p.entry →
    (c = .commitReadbackDone r ∧ run.stage = .commitRead ∧ readBytes r = some s.sto.snapshotBytes ∧
      generationOf s.sto.snapshotBytes ≠ 4294967295) ∨
    (s.sto.attempt ≠ 1 ∧ ((c = .commitReadbackDone r ∧ run.stage = .commitRead ∧ readBytes r ≠ some s.sto.snapshotBytes) ∨
      (c = .commitWriteDone w ∧ (run.stage = .commitPrePoll ∨ run.stage = .commitWrite) ∧ w ≠ .acked) ∨
      ((c = .pollTimeout ∨ c = .memoryClockFault) ∧ (run.stage = .commitPrePoll ∨ run.stage = .commitWrite ∨
        run.stage = .commitPoll ∨ run.stage = .commitRead)))) →
    ∃ t, exec c s = .next t ∧ (∀ x ∈ t.dec.places, x.entry = p.entry ∧ x.state ≠ .ready) ∧
      let alone := { t with
        dec := { t.dec with places := [{ p with state := .filling }] }
        sto := { t.sto with held := none }
        path := { t.path with owner := .host, run := none, window := some .inbox, memClass := true, holdTime := 0 } }
      ∃ u, exec .hostStop alone = .next u ∧ t.dec = { u.dec with refused := t.dec.refused } ∧ t.sto.held = u.sto.held ∧
        (t.sto.held.isSome = true → t.Owes 4)) ∧
  ∀ (s : State) (p : Submission) (byStop : Bool), s.Settled → s.path.owner = .host → s.path.window = some .inbox →
    s.dec.places = [p] → p.state = .filling → s.path.memClass = true →
    let t := p.bytes.map fun b => b.toNat - 0x30
    let malformed := p.bytes.length < 18 ∨ 18 < p.bytes.length ∨ p.overLength = true ∨ p.busError = true ∨ byStop = false ∨
      p.bytes.any (fun b => b.toNat < 0x30 || 0x39 < b.toNat) = true
    let decided := fun (o : OutcomeCode) (ks : Option (Nat × Nat)) => { s.dec with
      places := [], refused := false
      outcomes := s.dec.outcomes.map fun r => if r.entry = p.entry then { r with outcome := o, kindSeq := ks } else r }
    ∃ u, exec (if byStop then .hostStop else .busError ⟨false, false⟩) s = .next u ∧
      u = { s with
        lines := s.said none none s.path.openStop
        pins := s.byteOver
        win := s.win.noSnapshots
        path := { s.path.hostGone .idle s.path.endMirror with jobs := u.path.jobs }
        dec := u.dec
        sto := { s.sto with held := u.sto.held, waiting := u.sto.waiting, stage := u.sto.stage } } ∧
      (malformed → u.dec = decided .malformed none ∧ u.sto = s.sto) ∧
      (¬ malformed → s.dec.key = none → u.dec = decided .check none ∧ u.sto = s.sto) ∧
      (¬ malformed → ∀ k, s.dec.key = some k →
        let f := codeFields (unscramble k t)
        let shown := some (f.kind, f.seq)
        (f.check ≠ (f.n14 * k.a + k.b) % 9973 → u.dec = decided .check none ∧ u.sto = s.sto) ∧
        (f.check = (f.n14 * k.a + k.b) % 9973 →
          (f.kind = 9 → u.dec = decided .accepted shown ∧ u.sto = s.sto) ∧
          (f.kind = 0 ∨ (6 ≤ f.kind ∧ f.kind ≠ 9) → u.dec = decided .kind shown ∧ u.sto = s.sto) ∧
          (∀ c, CodeKind.ofDigit f.kind = some c →
            (judgeSeq s.sto.high s.sto.used f.seq = .old → u.dec = decided .old shown ∧ u.sto = s.sto) ∧
            (judgeSeq s.sto.high s.sto.used f.seq = .used → u.dec = decided .used shown ∧ u.sto = s.sto) ∧
            (judgeSeq s.sto.high s.sto.used f.seq = .fresh →
              (c.valueOk f.value = false → u.dec = decided .value shown ∧ u.sto = s.sto) ∧
              (c.valueOk f.value = true → c = .credit ∧ 999999999 < s.eng.credit + f.value * 10 →
                u.dec = decided .overflow shown ∧ u.sto = s.sto) ∧
              (c.valueOk f.value = true → ¬ (c = .credit ∧ 999999999 < s.eng.credit + f.value * 10) →
                u.sto.held = some { kind := c, value := f.value, seq := f.seq } ∧ u.dec.outcomes = s.dec.outcomes ∧
                u.dec.places = [{ p with state := .active { kind := c, value := f.value, seq := f.seq } }] ∧
                (s.sto.state ≠ .noAccount → (u.sto.waiting.map Trigger.rank).getD 9 ≤ 4))))))

/-- 6.5, R109, R110: a single wrong digit of a code that passes always fails the check. -/
def Obligations.SingleWrongDigitFailsCheck : Prop :=
  ∀ (k : Key) (t : List Nat) (i d : Nat), k.WellFormed → isCode t → i < 18 → d ≤ 9 → t.getD i 0 ≠ d →
    (codeFields (unscramble k t)).passes k = true →
    (codeFields (unscramble k (t.set i d))).passes k = false

/-! ## Chapter 7: the supply switch -/

/-- CROSSING_WAIT_TIMEOUT, ZERO_CROSS_DELAY_END, PULSE_END, SETTLE_TIME_END and CAPTURE_REQUEST_RETRY (R133 to R135, R145): a wait
without a crossing goes on unsynchronised; the delay ends with the pulse, but a closing that finds the set not empty becomes an
opening with the first reason in the order of R129 (log entry 44, DEDUCED), in WARNED too (log entry 49, DEDUCED); the pulse is
followed by 60 ms of settling; then the capture is requested, and requested again while it is refused. -/
def Obligations.AttemptGoesOn : Prop :=
  ∀ (s : State) (o : Operation) (n : Nat), s.Quiet →
    let quiet := { s with lines := s.said none none [] }
    let goes := fun (p : Operation) => { quiet with sw := { s.sw with op := some p } }
    let accepted := s.smp.capture = .idle ∧ s.sup.phase ≠ .held
    let requested := fun (u : State) => { u with
      smp := { s.smp with capture := .waiting, capCount := 0, capMax := 0, capSum := 0 } }
    (s.sw.op = some o →
      (o.step = .crossingWait n → exec .crossingWaitTimeout s =
        .next (goes { o with unsync := true, step := .delay (halfMs s.win.cal.zcDelay) })) ∧
      (o.step = .delay n → s.sw.relay ≠ .closing ∨ s.sw.reasons.isEmpty = true →
        exec .zeroCrossDelayEnd s = .next (goes { o with step := .pulse (ms s.win.cal.pulseMs) })) ∧
      (o.step = .delay n → s.sw.relay = .closing → s.sw.reasons.isEmpty = false →
        exec .zeroCrossDelayEnd s = .next { quiet with
          sw := { s.sw with relay := .opening, op := some (startedOp s.sw.reasons.first), overRun := 0 } }) ∧
      (o.step = .pulse n → exec .pulseEnd s = .next (goes { o with step := .settle (ms 60) })) ∧
      (o.step = .settle n → exec .settleTimeEnd s =
        .next (if accepted then requested (goes { o with step := .capture }) else goes { o with step := .retry })) ∧
      (o.step = .retry → exec .captureRequestRetry s =
        .next (if accepted then requested (goes { o with step := .capture }) else quiet))) ∧
    (s.sw.op = none → s.sw.check = .retry → exec .captureRequestRetry s =
      .next (if accepted then requested { quiet with sw := { s.sw with check := .waiting } } else quiet))

/-- CAPTURE_COMPLETE for an attempt (R129, R136, R137, R138): a failed first or second attempt is followed by the next. Otherwise the
relay settles in the operation's direction, with its event, its marks and a SWITCH request; a third failure is a RELAY finding, or for
an opening with a live load side and no current the BYPASS condition. The settle evaluation then moves the relay once more where it
disagrees with the set, unless the holdback is HELD; after a failed closing whose finding trips, TAMPER has started the opening by then
(log entry 45, DEDUCED). -/
def Obligations.SettleFollowsCapture : Prop :=
  ∀ (s : State) (o : Operation), s.Settled → s.smp.capture = .running → 64 ≤ s.smp.capCount →
    s.sw.op = some o → o.step = .capture →
    let closed := s.sw.relay = .closed ∨ s.sw.relay = .closing
    let live := s.win.cal.vOn ≤ s.smp.capMax
    let current := 64 * s.win.cal.creepCurrent ^ 2 ≤ s.smp.capSum
    let confirmed := if closed then live else ¬ live ∧ ¬ current
    let smp := { s.smp with capture := .idle, capCount := 0 }
    (¬ confirmed → o.attempt < 3 → exec .captureComplete s = .next { s with
      lines := s.said none none []
      smp := smp
      sw := { s.sw with op := some { o with attempt := o.attempt + 1, step := .crossingWait 0 } } }) ∧
    (confirmed ∨ 3 ≤ o.attempt → ∃ t, exec .captureComplete s = .next t ∧
      t = { s with
        lines := s.said none none [], smp := smp, sw := t.sw, log := t.log, free := t.free
        tam := { s.tam with
          latches := t.tam.latches, waiting := t.tam.waiting, bypass := t.tam.bypass, tripReported := t.tam.tripReported }
        path := { s.path with jobs := t.path.jobs }
        sto := { s.sto with waiting := t.sto.waiting, stage := t.sto.stage, further := t.sto.further } } ∧
      (s.sw.held = true → t.sw.relay = (if closed then .closed else .opened) ∧ t.sw.op = none) ∧
      (s.sw.held = false →
        (closed → t.sw.reasons.isEmpty = true → t.sw.relay = .closed ∧ t.sw.op = none) ∧
        (closed → t.sw.reasons.isEmpty = false → t.sw.relay = .opening ∧ ∃ p, t.sw.op = some p ∧ p = startedOp p.reason) ∧
        (closed → t.sw.reasons.isEmpty = false → s.sw.awaitRecord = false → s.sw.overRun < 250 → t.sw.op = some (startedOp
          (if t.sw.reasons.tamper = true ∧ s.sw.reasons.tamper = false then some .tamper else t.sw.reasons.first))) ∧
        (¬ closed → t.sw.reasons.isEmpty = false ∨ t.sw.armed = true → t.sw.relay = .opened ∧ t.sw.op = none) ∧
        (¬ closed → t.sw.reasons.isEmpty = true → t.sw.armed = false →
          t.sw.relay = .closing ∧ t.sw.op = some (startedOp none))) ∧
      (closed → t.sw.clean = 0) ∧
      (t.sw.relay = .opened → t.sw.openPeriod = true ∧ t.sw.ilRun = 0 ∧ (t.sw.relayFound = true ↔ ¬ confirmed ∧ current)) ∧
      (confirmed → t.sw.reasons = s.sw.reasons ∧ t.tam.latches.relay = s.tam.latches.relay) ∧
      (¬ confirmed → closed ∨ current → FindingTaken s t Latches.relay Findings.relay) ∧
      (¬ confirmed → ¬ closed → ¬ current → t.sw.op = none → t.sw.bypass = true) ∧
      t.Owes 6 ∧
      (s.log.recovering = false → s.log.ring.isSome = true → s.log.queue.length < 7 → ∀ r, closed ∨ o.reason = some r →
        (t.log.queue.getLast?.map fun e => (e.kind, e.detail.toNat)) =
          some (if closed then .supplyClosed else .supplyOpened,
            (if closed then 0 else r.num) + (if o.unsync then 64 else 0) + (if confirmed then 0 else 128))))

/-- CAPTURE_COMPLETE for a relay check (R129, R145, R179 steps 8 and 9): the check's judgement ends the holdback, unless the warning
has been raised (log entry 15); a confirmed direction stands, with a settle only after an abandoned operation (whose mark and opening
reason are free values: log entry 12), and is evaluated; one
that is not confirmed starts a corrective operation. A check that finds the relay OPEN begins an open period anew, also where no settle came
before it (log entry 39, DESIGN CHOICE). At a cold start it is the end of isolation: the phase is RUNNING and the button
filter starts. -/
def Obligations.RelayCheckIsJudged : Prop :=
  ∀ s : State, s.Settled → s.smp.capture = .running → 64 ≤ s.smp.capCount → s.sw.op = none → s.sw.check = .waiting →
    let closed := s.sw.relay = .closed ∨ s.sw.relay = .closing
    let live := s.win.cal.vOn ≤ s.smp.capMax
    let current := 64 * s.win.cal.creepCurrent ^ 2 ≤ s.smp.capSum
    let confirmed := if closed then live else ¬ live ∧ ¬ current
    ∃ t, exec .captureComplete s = .next t ∧
      t = { s with
        lines := s.said none none []
        smp := { s.smp with capture := .idle, capCount := 0 }
        sw := t.sw, log := t.log, free := t.free
        sup := { s.sup with phase := t.sup.phase, step := t.sup.step }
        tam := { s.tam with bypass := t.tam.bypass, latches := { s.tam.latches with bypass := t.tam.latches.bypass } }
        path := { s.path with causeStartUp := t.path.causeStartUp, jobs := t.path.jobs }
        sto := { s.sto with waiting := t.sto.waiting, stage := t.sto.stage } } ∧
      t.sw.check = .noCheck ∧ (t.sw.held = true ↔ s.sup.phase = .warned) ∧
      t.sw.reasons = s.sw.reasons ∧ t.sw.armed = s.sw.armed ∧
      (s.sup.step = .coldRelayCheck → t.sup.phase = .running ∧ t.sup.step = .noStep ∧ t.path.causeStartUp = false ∧
        t.sw.buttonOn = true ∧ t.sw.button = .unsettled ∧ t.sw.buttonTime = 0) ∧
      (s.sup.step ≠ .coldRelayCheck → t.sup = s.sup ∧ t.path.causeStartUp = s.path.causeStartUp ∧
        t.sw.buttonOn = s.sw.buttonOn ∧ t.sw.button = s.sw.button) ∧
      (¬ confirmed → t.log = s.log ∧ t.sto = s.sto ∧
        (s.sup.phase = .warned → t.sw.relay = s.sw.relay ∧ t.sw.op = none) ∧
        (s.sup.phase ≠ .warned →
          t.sw.relay = (if closed then .closing else .opening) ∧ t.sw.op = some (startedOp none))) ∧
      (confirmed →
        (s.sw.relay = .closed ∨ s.sw.relay = .opened → t.log = s.log ∧ t.sto = s.sto) ∧
        (s.sw.relay = .closing ∨ s.sw.relay = .opening → t.Owes 6 ∧ (s.LogsEvents →
          t.log.queue.dropLast = s.log.queue ∧
          t.log.queue.getLast?.map (·.kind) = some (if closed then .supplyClosed else .supplyOpened))) ∧
        (s.sup.phase = .warned → t.sw.relay = (if closed then .closed else .opened) ∧ t.sw.op = none) ∧
        (s.sup.phase ≠ .warned →
          (closed → s.sw.reasons.isEmpty = true → t.sw.relay = .closed ∧ t.sw.op = none) ∧
          (closed → s.sw.reasons.isEmpty = false → t.sw.relay = .opening ∧ t.sw.op = some (startedOp s.sw.reasons.first)) ∧
          (¬ closed → s.sw.reasons.isEmpty = false ∨ s.sw.armed = true →
            t.sw.relay = .opened ∧ t.sw.op = none ∧ t.sw.openPeriod = true ∧ t.sw.ilRun = 0 ∧ t.sw.relayFound = false) ∧
          (¬ closed → s.sw.reasons.isEmpty = true → s.sw.armed = false →
            t.sw.relay = .closing ∧ t.sw.op = some (startedOp none))))

/-- OVERLOAD_TRIP, LIMIT_DELAY_END and CLEAN_TIME_END (R125, R127, R128, R141, R142): the trip puts LIMIT into the set with the delay
of the retry stage, raises the stage, and opens a closed relay; the end of the delay takes LIMIT out again, and as the last reason it
recloses the supply without a press; 600 s of supply return the stage to 0. -/
def Obligations.OverloadTripsAndRecloses : Prop :=
  ∀ s : State, s.Settled →
    let same := fun (t : State) => t = { s with
      lines := s.said none none [], sw := t.sw
      tam := { s.tam with bypass := t.tam.bypass, latches := { s.tam.latches with bypass := t.tam.latches.bypass } }
      path := { s.path with jobs := t.path.jobs }
      sto := { s.sto with waiting := t.sto.waiting, stage := t.sto.stage } }
    (s.sw.overRun < 250 → exec .overloadTrip s = .next { s with lines := s.said none none [] }) ∧
    (250 ≤ s.sw.overRun → ∃ t, exec .overloadTrip s = .next t ∧ same t ∧
      t.sw.limitDelay = (if s.sw.retry = 0 then 30 else if s.sw.retry = 1 then 60 else if s.sw.retry = 2 then 120
        else if s.sw.retry = 3 then 240 else 480) ∧
      t.sw.retry = min (s.sw.retry + 1) 4 ∧ t.sw.clean = 0 ∧ t.sw.overRun = 0 ∧
      t.sw.reasons = { s.sw.reasons with limit := true } ∧
      (s.sw.reasons.limit = false → t.sw.armed = false ∧ t.Owes 6) ∧
      (s.sw.reasons.limit = false → s.sw.relay = .closed → s.sw.held = false → s.sw.op = none →
        t.sw.relay = .opening ∧ t.sw.op = some (startedOp (some .limit))) ∧
      (s.sw.reasons.limit = true ∨ s.sw.relay ≠ .closed ∨ s.sw.held = true ∨ s.sw.op ≠ none →
        t.sw.relay = s.sw.relay ∧ t.sw.op = s.sw.op)) ∧
    (∃ t, exec .limitDelayEnd s = .next t ∧ same t ∧
      t.sw.limitDelay = 0 ∧ t.sw.retry = s.sw.retry ∧ t.sw.armed = s.sw.armed ∧
      t.sw.reasons = { s.sw.reasons with limit := false } ∧ (s.sw.reasons.limit = true → t.Owes 6) ∧
      (if s.sw.reasons.limit = true ∧ t.sw.reasons.isEmpty = true ∧ s.sw.relay = .opened ∧ s.sw.held = false ∧ s.sw.op = none then
        t.sw.relay = .closing ∧ t.sw.op = some (startedOp none)
      else t.sw.relay = s.sw.relay ∧ t.sw.op = s.sw.op)) ∧
    (exec .cleanTimeEnd s = .next { s with
      lines := s.said none none []
      sw := if s.sw.relay = .closed then { s.sw with clean := 600, retry := 0 } else s.sw })

/-- OPEN_RELAY_IL_RUN (R139, R140, R157): 50 blocks of line current in an open period are one RELAY finding, with BYPASS reported
absent; the same period gives no second one. -/
def Obligations.OpenRelayCurrentIsFound : Prop :=
  ∀ s : State, s.Settled →
    (s.sw.openPeriod = false ∨ s.sw.ilRun < 50 ∨ s.sw.relayFound = true →
      exec .openRelayIlRun s = .next { s with lines := s.said none none [] }) ∧
    (s.sw.openPeriod = true → 50 ≤ s.sw.ilRun → s.sw.relayFound = false → ∃ t, exec .openRelayIlRun s = .next t ∧
      t = { s with
        lines := s.said none none [], sw := t.sw, log := t.log
        tam := { s.tam with
          waiting := { s.tam.waiting with relay := t.tam.waiting.relay }, bypass := t.tam.bypass
          tripReported := t.tam.tripReported
          latches := { s.tam.latches with relay := t.tam.latches.relay, bypass := t.tam.latches.bypass } }
        path := { s.path with jobs := t.path.jobs }
        sto := { s.sto with waiting := t.sto.waiting, stage := t.sto.stage } } ∧
      t.sw.relayFound = true ∧ t.sw.bypass = false ∧ FindingTaken s t Latches.relay Findings.relay ∧
      (s.tam.loaded = true → s.tam.latches.relay = .clear → t.Owes 5 ∧ (s.LogsEvents →
        t.log.queue = s.log.queue ++ [eventRec .tamperSet 6 s.log.nextNo s])))

/-- BUTTON_FILTER_SETTLE (R72, R130, R131): the filter takes the level, and only a settled RELEASED that becomes PRESSED is a press. A
press is ignored while an operation is in flight or the holdback is HELD. Otherwise it takes emergency credit where that can be taken,
and closes an OPEN relay whose set is then empty and whose supply is ARMED. -/
def Obligations.PressClosesTheSupply : Prop :=
  ∀ (s : State) (pressed : Bool), s.Settled →
    let settled := { s.sw with button := if pressed then .pressed else .released, buttonTime := 0 }
    let isPress := s.sw.buttonOn = true ∧ pressed = true ∧ s.sw.button = .released ∧ s.sw.op = none ∧ s.sw.held = false
    let takes := s.eng.account = true ∧ s.eng.ec = .available ∧ s.eng.credit < s.win.cal.wLow ∧ 1 ≤ s.eng.allow
    (s.sw.buttonOn = false → exec (.buttonFilterSettle pressed) s = .next { s with lines := s.said none none [] }) ∧
    (s.sw.buttonOn = true → ¬ isPress →
      exec (.buttonFilterSettle pressed) s = .next { s with lines := s.said none none [], sw := settled }) ∧
    (isPress → ¬ takes → ¬ (s.sw.relay = .opened ∧ s.sw.reasons.isEmpty = true ∧ s.sw.armed = true) →
      exec (.buttonFilterSettle pressed) s = .next { s with lines := s.said none none [], sw := settled }) ∧
    (isPress → ∃ t, exec (.buttonFilterSettle pressed) s = .next t ∧
      t = { s with
        lines := s.said none none [], sw := t.sw, log := t.log, eng := t.eng
        tam := { s.tam with bypass := t.tam.bypass, latches := { s.tam.latches with bypass := t.tam.latches.bypass } }
        path := { s.path with jobs := t.path.jobs }
        sto := { s.sto with waiting := t.sto.waiting, stage := t.sto.stage } } ∧
      t.sw.button = .pressed ∧ t.sw.buttonTime = 0 ∧
      (¬ takes → t.eng = s.eng ∧ t.log = s.log ∧ t.sto = s.sto) ∧
      (takes → t.eng = { s.eng with
          ec := .inUse, lowFlag := true, repLow := true, repCredit := s.eng.credit ≤ -(s.eng.allow : Int) } ∧ t.Owes 7 ∧
        (s.LogsEvents → t.log.queue = s.log.queue ++ [eventRec .ecTaken 0 s.log.nextNo s])) ∧
      (¬ takes → s.sw.relay = .opened → s.sw.reasons.isEmpty = true → s.sw.armed = true →
        t.sw.relay = .closing ∧ t.sw.op = some (startedOp none) ∧ t.sw.armed = false) ∧
      (takes → s.sw.relay = .opened → s.sw.awaitRecord = false → s.eng.repCredit = true →
        -(s.eng.allow : Int) < s.eng.credit → s.sw.reasons = { Reasons.cold with unset := false, credit := true } →
        t.sw.reasons.isEmpty = true ∧ t.sw.relay = .closing ∧ t.sw.op = some (startedOp none) ∧ t.sw.armed = false) ∧
      (t.sw.reasons.isEmpty = false → s.sw.relay ≠ .closed → t.sw.relay = s.sw.relay ∧ t.sw.op = none))

/-! ## Chapter 8: tamper monitoring -/

/-- SWITCH_INPUT_FILTER_SETTLE, IMBALANCE_CHANGE and REVERSE_CHANGE (R149, R151, R152, R154, R155): a filter that settles at a new
level, or a run of 50 toward the other state, changes its condition and is taken under R149. A level the filter already has, and a
shorter run, change nothing. A condition that moves its latch just as the grant of a commit job is due has a further commit follow that
one (R162; log entry 34, DEDUCED). -/
def Obligations.ConditionsMoveLatches : Prop :=
  ∀ (s : State) (isOpen : Bool), s.Settled →
    let level := fun (f : InputFilterState) => { f with state := if isOpen then .opened else .intact, time := 0 }
    let taken := fun (c : Instr) (k : TamperKind) (present : Bool) (tam : Tamper) => ∃ t, exec c s = .next t ∧
      t = { s with
        lines := s.said none none [], sw := t.sw, log := t.log
        tam := { tam with
          latches := t.tam.latches, bypass := t.tam.bypass, tripReported := t.tam.tripReported }
        path := { s.path with jobs := t.path.jobs }
        sto := { s.sto with waiting := t.sto.waiting, stage := t.sto.stage, further := t.sto.further } } ∧
      ConditionTaken s t k present
    let nothing := fun (c : Instr) => exec c s = .next { s with lines := s.said none none [] }
    (if s.tam.caseFilter.state = (level s.tam.caseFilter).state then nothing (.switchInputFilterSettle .caseSwitch isOpen)
      else taken (.switchInputFilterSettle .caseSwitch isOpen) .caseOpen isOpen
        { s.tam with caseFilter := level s.tam.caseFilter, caseCond := isOpen }) ∧
    (if s.tam.coverFilter.state = (level s.tam.coverFilter).state then nothing (.switchInputFilterSettle .coverSwitch isOpen)
      else taken (.switchInputFilterSettle .coverSwitch isOpen) .cover isOpen
        { s.tam with coverFilter := level s.tam.coverFilter, coverCond := isOpen }) ∧
    (if (if s.tam.imbalance then s.tam.imbAbsent else s.tam.imbPresent) < 50 then nothing .imbalanceChange
      else taken .imbalanceChange .imbalance (!s.tam.imbalance) (if s.tam.imbalance
        then { s.tam with imbAbsent := 0, imbalance := false } else { s.tam with imbPresent := 0, imbalance := true })) ∧
    (if (if s.tam.reverse then s.tam.revAbsent else s.tam.revPresent) < 50 then nothing .reverseChange
      else taken .reverseChange .reverse (!s.tam.reverse) (if s.tam.reverse
        then { s.tam with revAbsent := 0, reverse := false } else { s.tam with revPresent := 0, reverse := true }))

/-! ## Chapter 9: the event log -/

/-- LOG_APPEND_WRITE_DONE, and POLL_ACK after the number (R167 to R170): each write is followed by a poll; a NACK ends the append in
BACKOFF with the queue and the front of the ring as they were. The second poll's ACK ends it: the record leaves the queue, the head and
the append number move on, and after losses an EVENTS_LOST record joins. Either end goes on with the job's restore, and at hold exit a
failure, or an empty queue, ends the drain (R178). -/
def Obligations.AppendsGoOn : Prop :=
  ∀ (s : State) (run : JobRun) (ring : Ring) (w : WriteResult), s.Quiet → s.path.owner = .own → s.path.run = some run →
    s.log.ring = some ring → s.path.stopOwed = false →
    let slot : Addr := BitVec.ofNat 16 ((ring.first + s.log.head / 8) * 128 + 16 * (s.log.head % 8))
    let on := fun (stage : JobStage) (act : OwnAct) (mirror : Option Addr) => { s with
      lines := s.said none none [s.own act]
      path := { s.path with run := some { run with stage := stage }, pollTime := 0, mirror := mirror } }
    let drained := fun (u : State) => if s.sup.step = .exitDrain then { u with
        path := { u.path with causePower := false }
        sup := { s.sup with phase := .running, step := .noStep } } else u
    let restores := fun (mirror : Option Addr) => on .restore (.write (s.path.hostPtr.getD 0) []) mirror
    let queue := s.log.queue.tail ++ if s.log.lost = 0 then []
      else [eventRec .eventsLost (min s.log.lost 255) s.log.nextNo s]
    (run.stage = .logBody → exec (.logAppendWriteDone .acked) s =
      .next (on .logBodyPoll .poll (some (advanceInPage (slot + 4) 12)))) ∧
    (run.stage = .logNumber → exec (.logAppendWriteDone .acked) s =
      .next (on .logNumberPoll .poll (some (advanceInPage slot 4)))) ∧
    (run.stage = .logBody ∨ run.stage = .logNumber → w ≠ .acked → exec (.logAppendWriteDone w) s =
      .next (drained { restores none with log := { s.log with stage := .backoff } })) ∧
    (run.stage = .logNumberPoll → exec .pollAck s =
      let u := { restores s.path.mirror with
        log := { s.log with
          queue := queue
          head := (s.log.head + 1) % (8 * ring.pages)
          appendNo := s.log.appendNo + 1
          nextNo := if s.log.lost = 0 then s.log.nextNo else s.log.nextNo + 1
          lost := 0
          stage := if queue = [] then .idle else .queued } }
      .next (if queue = [] then drained u
        else { u with path := { u.path with jobs := s.path.withJob .logAppend } }))

/-- LOG_SLOT_READ_DONE (R172, R179 step 6): recovery reads forward while the numbers follow and the kinds are defined. At the first slot
that does not match, or after K matches, the front moves on by the matches, the held records take their numbers, calibration is ordered
and the job ends with its restore. A failed read ends it too, with a MEMORY finding. -/
def Obligations.RecoveryReadsForward : Prop :=
  ∀ (s : State) (run : JobRun) (ring : Ring) (j : Nat) (r : ReadResult 16), s.Settled → s.path.owner = .own →
    s.path.run = some run → s.log.ring = some ring → s.path.stopOwed = false → run.stage = .readRing j →
    let slots := 8 * ring.pages
    let slot := fun (i : Nat) => (BitVec.ofNat 16
      ((ring.first + (s.log.head + i) % slots / 8) * 128 + 16 * ((s.log.head + i) % slots % 8)) : Addr)
    let isMatch := (readBytes r).any fun bs =>
      field bs 0 4 = (s.log.appendNo + BitVec.ofNat 32 j).toNat && 1 ≤ field bs 4 1 && field bs 4 1 ≤ 14
    let n := if isMatch then j + 1 else j
    let number := s.log.appendNo + BitVec.ofNat 32 n
    let begins := s.smp.conv = .uncalibrated ∧ s.smp.loop = .locked
    let after := { s with
      lines := s.said none none [s.own (.write (s.path.hostPtr.getD 0) [])]
      smp := { s.smp with
        conv := if begins then .calibrating else s.smp.conv
        calTime := if begins then 0 else s.smp.calTime
        calOrdered := if begins then false else s.smp.calOrdered || s.smp.conv = .uncalibrated }
      sup := { s.sup with step := .coldCalRestore, restoreDone := false }
      path := { s.path with
        run := some { run with stage := .restore }, pollTime := 0, mirror := some (slot j + 16)
        jobs := if s.log.queue = [] then s.path.jobs else s.path.withJob .logAppend }
      log := { s.log with
        head := (s.log.head + n) % slots
        appendNo := number
        nextNo := number + BitVec.ofNat 32 s.log.queue.length
        queue := s.log.queue.zipIdx.map fun e => { e.1 with number := number + BitVec.ofNat 32 e.2 }
        recovering := false
        stage := if s.log.queue = [] then s.log.stage else .queued } }
    (isMatch = true → j + 1 < slots → exec (.logSlotReadDone r) s = .next { s with
      lines := s.said none none [s.own (.read (slot (j + 1)) 16)]
      path := { s.path with run := some { run with stage := .readRing (j + 1) }, pollTime := 0, mirror := some (slot j + 16) } }) ∧
    (readBytes r ≠ none → (isMatch = true → slots ≤ j + 1) → exec (.logSlotReadDone r) s = .next after) ∧
    (readBytes r = none → ∃ t, exec (.logSlotReadDone r) s = .next t ∧
      t = { after with
        path := { after.path with mirror := t.path.mirror, jobs := t.path.jobs }
        log := { s.log with
          head := (s.log.head + j) % slots, appendNo := s.log.appendNo + BitVec.ofNat 32 j, recovering := false
          nextNo := t.log.nextNo, queue := t.log.queue, stage := t.log.stage, lost := t.log.lost }
        tam := { s.tam with
          waiting := t.tam.waiting, bypass := t.tam.bypass, tripReported := t.tam.tripReported
          latches := { s.tam.latches with memory := t.tam.latches.memory, bypass := t.tam.latches.bypass } }
        sw := t.sw
        sto := { s.sto with waiting := t.sto.waiting, stage := t.sto.stage } } ∧
      FindingTaken s t Latches.memory Findings.memory)

/-! ## Chapter 10: outages, start-up and clocks -/

/-- POWER_FAIL_WARNING (R20, R87, R122, R146, R175, R176, R179): in RUNNING and RESUMING the part is isolated, the submissions that
are not decoded are dropped, one whose repeated START has come in the middle of its address byte too (log entry 43, DESIGN CHOICE),
the holdback is HELD, POWER_DOWN is raised and a POWERFAIL request swaps a waiting commit for the URGENT COMMIT; a host transaction is
cut at the byte boundary, and with no account the part enters HOLD at once. An overload trip that is due comes first (log entry 8,
DEDUCED). In STARTING the cold start begins again from its first step; that it keeps the port whole and answers a host transaction
still in progress as refused is log entry 16 (DEDUCED). A cut after a repeated START that the part refused clocks no byte (log entry
51, DESIGN CHOICE). -/
def Obligations.WarningIsTaken : Prop :=
  ∀ s : State, s.Settled →
    let sup := { s.sup with raised := true, belowTime := 0, aboveTime := 0 }
    let inRun := s.sup.raised = false ∧ (s.sup.phase = .running ∨ s.sup.phase = .resuming)
    (s.sup.raised = true → exec .powerFailWarning s = .next { s with lines := s.said none none [] }) ∧
    (s.sup.raised = false → s.sup.phase = .warned ∨ s.sup.phase = .held →
      exec .powerFailWarning s = .next { s with lines := s.said none none [], sup := sup }) ∧
    (s.sup.raised = false → s.sup.phase = .starting → exec .powerFailWarning s = .next { State.reset with
      pins := s.pins
      lines := s.said none none (if s.path.segOpen = true ∨ s.path.run.isSome = true then [.stop] else [])
      path := { Path.cold s.pins.strap with phase := if s.path.phase = .idle then .idle else .refused }
      dec := { State.reset.dec with key := s.dec.key }
      tam := Tamper.cold s.tam.caseFilter s.tam.coverFilter
      sup := { State.reset.sup with subSec := s.sup.subSec }
      port := if s.port.pagePending then { s.port with last := .noResult, pagePending := false } else s.port
      free := s.free, pending := s.pending }) ∧
    (inRun → 250 ≤ s.sw.overRun → ∃ u, exec .overloadTrip s = .next u ∧
      exec .powerFailWarning s = exec .powerFailWarning u) ∧
    (inRun → s.sw.overRun < 250 → s.sto.state ≠ .noAccount → ∃ t, exec .powerFailWarning s = .next t ∧
      t = { s with
        lines := t.lines, path := t.path, dec := t.dec, log := t.log
        pins := s.pins
        win := if s.path.owner = .host ∧ s.pins.midByte = false then s.win.noSnapshots else s.win
        sup := { sup with phase := .warned, timer := 0, step := .noStep }
        sto := { s.sto with
          waiting := some .powerFail
          stage := if s.sto.waiting = none ∧ s.sto.stage ≠ .inFlight then .queued else s.sto.stage }
        sw := { s.sw with held := true } } ∧
      t.path.causePower = true ∧ (s.sto.waiting ≠ some .powerFail → .urgentCommit ∈ t.path.jobs) ∧
      (s.sto.waiting ≠ none → s.sto.waiting ≠ some .powerFail → .commit ∉ t.path.jobs) ∧
      t.dec.places = s.dec.places.filter (fun p => p.state ≠ .filling ∧ p.state ≠ .ready) ∧
      (∀ o ∈ t.dec.outcomes, (∃ p ∈ s.dec.places, (p.state = .filling ∨ p.state = .ready) ∧ p.entry = o.entry) →
        o.outcome = .dropped) ∧
      (s.LogsEvents → t.log.queue = s.log.queue ++ [eventRec .powerDown 0 s.log.nextNo s]) ∧
      (s.path.owner = .host → s.pins.midByte = false →
        t.lines = s.said none none ((if s.path.clocksAtCut then [.get false] else []) ++ s.path.openStop) ∧
        t.path = { s.path.hostGone .cut s.path.cutMirror with causePower := true, jobs := t.path.jobs }) ∧
      (s.path.owner ≠ .host ∨ s.pins.midByte = true →
        t.lines = s.said none none [] ∧
        t.path = { s.path with causePower := true, cutPending := s.path.owner = .host, jobs := t.path.jobs })) ∧
    (inRun → s.sto.state = .noAccount → s.path.owner ≠ .host ∨ s.pins.midByte = false →
      ∃ t, exec .powerFailWarning s = .next t ∧ t.sup.phase = .held ∧ t.path.owner = .free ∧ t.path.causePower = true ∧
        t.smp.loop = .stopped)

/-- HOLD_ENTRY_TIMER_END, and POINTER_RESTORE_END of an URGENT COMMIT in WARNED (R20, R54, R80, R95, R146, R169, R176, R185): the part
enters HOLD. The segment is FREE and the job holding it abandoned with STOP, or with the one that a clock fault owes (log entry 35): a
commit returns its change to held and its trigger to the waiting request, an append asks for a new job, a PAGE ends with WRITE_FAILED.
Sampling stops and its block is discarded; an operation is abandoned with the relay's direction kept. The account, the latches and the
queue are kept; a commit abandoned in its restore is no end for a Log Writer in BACKOFF (log entry 47, DESIGN CHOICE). A block or a
capture that is complete, and whatever else the counts have made due, is taken first (log entry 8, DEDUCED), but for a rising
crossing, which the filter's reset drops (log entry 48, DESIGN CHOICE). A host transaction that has not come to a byte boundary is cut
then, in the middle of its byte (log entry 30, DESIGN CHOICE), with an INBOX submission ending as at a STOP. A cut after a repeated
START that the part refused clocks no byte (log entry 51, DESIGN CHOICE). -/
def Obligations.HoldIsEntered : Prop :=
  ∀ (s : State) (ok pending : Bool), s.Settled →
    (s.sup.phase ≠ .warned → exec .holdEntryTimerEnd s = .next { s with lines := s.said none none [] }) ∧
    (s.sup.phase = .warned → (takeDue s).sup.phase = .warned → (takeDue s).CaughtUp →
      exec .holdEntryTimerEnd s = exec .holdEntryTimerEnd (takeDue s)) ∧
    (s.smp.blockDue = true → (s.smp.capture = .running → s.smp.capCount < 64) → s.smp.hall.due (3, 48) = false →
      s.smp.temp.due (8, 8) = false → ∃ u, exec .blockEnd s = .next u ∧
      (takeDue s).eng.sl = 0 ∧ (takeDue s).smp.blockDue = false ∧
      (takeDue s).eng.credit = u.eng.credit ∧ (takeDue s).eng.cumulative = u.eng.cumulative ∧
      (takeDue s).eng.fine = u.eng.fine ∧ (takeDue s).eng.charge = u.eng.charge) ∧
    (s.sup.phase = .warned → s.path.owner ≠ .host → s.CaughtUp → ∃ t, exec .holdEntryTimerEnd s = .next t ∧
      t = { s with
        lines := s.said none none (if s.path.run.isSome = true ∧ s.path.stopOwed = false then [.stop] else [])
        path := { s.path with
          owner := .free, run := none, behind := if s.path.run.isSome then [] else s.path.behind, mirror := none
          cutPending := false, holdTime := 0, pollTime := 0, clockLowTime := 0
          causePage := s.path.causePage && !s.port.pagePending
          jobs := t.path.jobs }
        smp := { s.smp with
          loop := .stopped, conv := .uncalibrated, calOrdered := false, calTime := 0, zc := .unsettled, zcCount := 0
          capture := .idle, capCount := 0, framePos := 0, blockDue := false, blockMax := 0, blockHas := false, ilSum := 0 }
        eng := { s.eng with sl := 0, sn := 0, limit := s.eng.pendingLimit.getD s.eng.limit, pendingLimit := none }
        sw := { s.sw with
          held := true, op := none, check := .noCheck, button := .unsettled, buttonTime := 0, buttonOn := false, lowcr := false
          overRun := if s.eng.pendingLimit.isSome then 0 else s.sw.overRun }
        sto := { s.sto with
          held := t.sto.held, carried := t.sto.carried, snapshot := t.sto.snapshot, attempt := t.sto.attempt
          inTrigger := t.sto.inTrigger, waiting := t.sto.waiting, stage := t.sto.stage }
        log := { s.log with stage := t.log.stage }
        sup := { s.sup with phase := .held, timer := 0, step := .noStep }
        port := if s.port.pagePending then { s.port with last := .writeFailed, pagePending := false } else s.port } ∧
      .startUpReads ∉ t.path.jobs ∧ .pageWrite ∉ t.path.jobs ∧ .restore ∉ t.path.jobs ∧
      (∀ r, s.path.run = some r →
        (r.kind = .commit ∨ r.kind = .urgentCommit → r.stage ≠ .restore →
          t.sto.held = (if s.sto.carried.isSome then s.sto.carried else s.sto.held) ∧ t.sto.carried = none ∧
          t.sto.snapshot = none ∧ t.sto.inTrigger = none ∧ t.sto.stage = .queued ∧
          (∀ u, s.sto.inTrigger = some u → t.Owes u.rank)) ∧
        (r.kind ≠ .commit → r.kind ≠ .urgentCommit → t.sto = s.sto) ∧
        (r.kind ≠ .logAppend → t.log = s.log) ∧
        (r.kind = .logAppend → s.log.stage = .running → t.log.stage = .queued ∧ .logAppend ∈ t.path.jobs)) ∧
      (s.path.run = none → t.sto = s.sto ∧ t.log = s.log)) ∧
    (s.sup.phase = .warned → s.path.owner = .host → s.CaughtUp →
      let cut := (if s.path.clocksAtCut then [.get false] else []) ++ s.path.openStop
      let asked := { s with path := { s.path with cutPending := pending } }
      (s.EndsNoSubmission → ∃ w, exec .holdEntryTimerEnd { s with
          dec := s.decAtEnd, win := s.win.noSnapshots, path := s.path.hostGone .cut s.path.cutMirror } = .next w ∧
        exec .holdEntryTimerEnd asked = .next { w with lines := s.said none none (cut ++ w.lines.seg) }) ∧
      (s.path.window = some .inbox → s.path.phase = .writing → ∃ u, exec .hostStop s = .next u ∧
        ∃ w, exec .holdEntryTimerEnd { u with pins := s.pins, path := { u.path with phase := .cut } } = .next w ∧
          exec .holdEntryTimerEnd asked = .next { w with lines := s.said none none (cut ++ w.lines.seg) })) ∧
    (s.sup.phase = .warned → s.path.owner = .own → s.path.run = some { kind := .urgentCommit, stage := .restore } →
      s.path.stopOwed = false → s.sto.waiting ≠ some .powerFail → ∃ t, exec (.pointerRestoreEnd ok) s = .next t ∧
        t.sup.phase = .held ∧ t.path.owner = .free ∧ t.path.mirror = none ∧ t.smp.loop = .stopped ∧ t.sw.held = true ∧
        (s.CaughtUp → t.sto.stage = if s.sto.waiting = none then .idle else .queued) ∧ t.sto.verified = s.sto.verified)

/-- WARNING_CLEAR, and POINTER_RESTORE_END of START-UP READS at hold exit (R143, R145, R174, R176, R178, R179): the warning cannot
clear in WARNED; the warning CLEAR ends HOLD: the loop is started, the button filter starts, LOWCR takes the flag and the relay check
is requested. At a cold start it starts the loop. The end of the hold-exit check's job raises POWER_UP (HOLD_EXIT) and waits for the
drain, which an empty queue passes at once; behind a full queue it only counts the record, and waits (log entry 50, DESIGN CHOICE). -/
def Obligations.HoldExitBegins : Prop :=
  ∀ (s : State) (ok : Bool), s.Settled →
    let sup := { s.sup with raised := false, belowTime := 0, aboveTime := 0 }
    (s.sup.raised = false ∨ s.sup.phase = .warned → exec .warningClear s = .next { s with lines := s.said none none [] }) ∧
    (s.sup.raised = true → s.sup.phase = .held → exec .warningClear s = .next { s with
      lines := s.said none none []
      sup := { sup with phase := .resuming, step := .exitLock }
      smp := if s.smp.capture = .idle then
          { s.smp with loop := .locking, capture := .waiting, capCount := 0, capMax := 0, capSum := 0 }
        else { s.smp with loop := .locking }
      sw := { s.sw with
        buttonOn := true, button := .unsettled, buttonTime := 0, lowcr := s.eng.lowFlag
        check := if s.smp.capture = .idle then .waiting else .retry } }) ∧
    (s.sup.raised = true → s.sup.phase = .starting → s.sup.step = .coldClocks → exec .warningClear s = .next { s with
      lines := s.said none none [], sup := sup, smp := { s.smp with loop := .locking } }) ∧
    (s.sup.raised = true → s.sup.phase ≠ .held → s.sup.phase ≠ .warned → s.sup.phase ≠ .starting ∨ s.sup.step ≠ .coldClocks →
      exec .warningClear s = .next { s with lines := s.said none none [], sup := sup }) ∧
    (s.path.owner = .own → s.path.run = some { kind := .startUpReads, stage := .restore } → s.path.stopOwed = false →
      s.sup.step = .exitCheck →
      ∃ t, exec (.pointerRestoreEnd ok) s = .next t ∧
        t = { s with
          lines := s.said none none [], log := t.log
          path := { s.path with
            owner := .free, run := none, behind := [], pollTime := 0, mirror := t.path.mirror, hostPtr := t.path.hostPtr
            jobs := t.path.jobs, causePower := t.path.causePower }
          sup := { s.sup with phase := t.sup.phase, step := t.sup.step } } ∧
        (s.LogsEvents → t.log.queue = s.log.queue ++ [eventRec .powerUp 2 s.log.nextNo s]) ∧
        (t.log.queue ≠ [] → t.sup.phase = s.sup.phase ∧ t.sup.step = .exitDrain ∧ t.path.causePower = s.path.causePower) ∧
        (t.log.queue = [] → t.sup.phase = .running ∧ t.sup.step = .noStep ∧ t.path.causePower = false))

/-- SUPPLY_LOSS and COLD_START (R173, R174, R179, R181): a cold start gives the state after reset, with the straps as they then stand;
the key store and the seal state survive and nothing else does. A loss of supply leaves that state without supply. That COLD_START is
taken in a part with supply is log entry 20 (DESIGN CHOICE), and the reset values that the manual does not give are those of log entry 4
(DESIGN CHOICE). -/
def Obligations.ColdStartIsReset : Prop :=
  ∀ s : State,
    let cold := { State.reset with
      pins := s.pins
      path := Path.cold s.pins.strap
      dec := { State.reset.dec with key := s.dec.key }
      port := { State.reset.port with sealed := s.port.sealed }
      free := s.free, pending := s.pending }
    exec .coldStart s = .next cold ∧
    (s.sup.powered = true → exec .supplyLoss s = .next { cold with sup := { cold.sup with powered := false } })

/-! ## Chapter 11: the commissioning port -/

/-- PSEL_FALL, PCLK_RISING_EDGE, PSEL_RISE, IDENT, STATUS and UNKNOWN_INSTRUCTION (R182, R183, 12.7): the frame's status byte and its
bits, the replies, and the end of the frame. An instruction whose last required byte the edge completes is taken at that edge, as by its
own command. That an instruction command with no frame in progress stands for its whole frame is log entry 19, and that PDO stays
released until PCLK's first rising edge log entry 40 (both DESIGN CHOICE). -/
def Obligations.PortFramesAndReplies : Prop :=
  ∀ (s : State) (pdi : Bool) (code : Byte), s.Settled →
    let p := s.port
    let nothing := { s with lines := s.said none none [] }
    let reply := fun (bytes : List Byte) => .next { nothing with
      port := { p with taken := p.frame, out := p.out ++ (bytes.map fun b => (List.range 8).map b.getLsbD).flatten } }
    let bits := p.bits ++ [pdi]
    (exec .pselFall s = .next (if p.frame then nothing else { nothing with
      port := { p with
        frame := true, bits := [], bytes := [], taken := false
        out := [p.sealed, s.dec.key.isSome, s.win.page0Valid, s.win.page1Valid,
          s.sto.state = .loaded ∨ s.sto.state = .storeFault, s.sto.state = .void ∨ s.sto.state = .storeFault,
          s.sto.stage ≠ .idle, s.sup.phase = .warned ∨ s.sup.phase = .held ∨ s.sup.phase = .resuming] } })) ∧
    (p.frame = false → exec (.pclkRisingEdge pdi) s = .next nothing ∧ exec .pselRise s = .next nothing) ∧
    let shifted := { s with
      lines := { s.said none none [] with pdo := some (p.out.headD false) }
      port := { p with
        out := p.out.tail
        bits := if bits.length = 8 then [] else bits
        bytes := if bits.length = 8 then p.bytes ++ [bitsByte bits] else p.bytes } }
    (p.frame = true →
      (portDue shifted = none → exec (.pclkRisingEdge pdi) s = .next shifted) ∧
      (∀ i, portDue shifted = some i → exec (.pclkRisingEdge pdi) s = exec i shifted) ∧
      exec .pselRise s = .next { s with
        lines := { s.said none none [] with pdo := none }
        port := { p with frame := false, bits := [], bytes := [], taken := false, out := [] } }) ∧
    (p.frame = false ∨ p.taken = false →
      exec .ident s = reply [0x4D, 0x12, 0x0B, 0x01] ∧ exec .status s = reply [BitVec.ofNat 8 p.last.code] ∧
      (code ∉ portCodes → exec (.unknownInstruction code) s = .next { nothing with
        port := { p with taken := p.frame, last := .unknown } })) ∧
    (p.frame = true → p.taken = true →
      exec .ident s = .next nothing ∧ exec .status s = .next nothing ∧ exec (.unknownInstruction code) s = .next nothing)

/-- KEY, SEAL and the instructions of a sealed part (R184, R186, R187): the first case that holds decides. A key whose fields are in
range is taken once; SEAL needs the key and both valid flags, and its seal is for life. On a sealed part KEY, PAGE and RESTART are
refused with a PORT finding and nothing else; SEAL without one. The finding is taken at once where the latches are loaded, in HOLD too (log
entry 25, DEDUCED), and an instruction command with no frame in progress stands for its whole frame (log entry 19, DESIGN CHOICE). -/
def Obligations.PortKeysAndSeals : Prop :=
  ∀ (s : State) (data : Vector Byte 40) (number : Byte) (page : Vector Byte 128), s.Settled →
    let p := { s.port with taken := s.port.frame }
    let ends := fun (r : Result) => .next { s with lines := s.said none none [], port := { p with last := r } }
    let nats := data.toList.map (·.toNat)
    let k : Key := {
      map := nats.take 18
      mask := (nats.drop 18).take 18
      a := nats.getD 36 0 * 256 + nats.getD 37 0
      b := nats.getD 38 0 * 256 + nats.getD 39 0 }
    (s.port.frame = true → s.port.taken = true → ∀ c, c = .key data ∨ c = .page number page ∨ c = .restart ∨ c = .seal →
      exec c s = .next { s with lines := s.said none none [] }) ∧
    (s.port.frame = false ∨ s.port.taken = false →
      (s.port.sealed = false → s.port.pagePending = true → ∀ c, c = .key data ∨ c = .page number page ∨ c = .restart ∨ c = .seal →
        exec c s = ends .busy) ∧
      (s.port.sealed = false → s.port.pagePending = false →
        (s.dec.key.isSome = true → exec (.key data) s = ends .notReady) ∧
        (s.dec.key = none → ¬ k.WellFormed → exec (.key data) s = ends .badArgument) ∧
        (s.dec.key = none → k.WellFormed → exec (.key data) s = .next { s with
          lines := s.said none none [], port := { p with last := .ok }, dec := { s.dec with key := some k } }) ∧
        (¬ (s.dec.key.isSome = true ∧ s.win.page0Valid = true ∧ s.win.page1Valid = true) → exec .seal s = ends .notReady) ∧
        (s.dec.key.isSome = true → s.win.page0Valid = true → s.win.page1Valid = true → exec .seal s = .next { s with
          lines := s.said none none [], port := { p with last := .ok, sealed := true } })) ∧
      (s.port.sealed = true → exec .seal s = ends .sealed ∧
        ∀ c, c = .key data ∨ c = .page number page ∨ c = .restart → ∃ t, exec c s = .next t ∧
          t = { s with
            lines := s.said none none [], port := { p with last := .sealed }, sw := t.sw, log := t.log
            tam := { s.tam with
              waiting := { s.tam.waiting with port := t.tam.waiting.port }
              tripReported := t.tam.tripReported, bypass := t.tam.bypass
              latches := { s.tam.latches with port := t.tam.latches.port, bypass := t.tam.latches.bypass } }
            path := { s.path with jobs := t.path.jobs }
            sto := { s.sto with waiting := t.sto.waiting, stage := t.sto.stage } } ∧
          FindingTaken s t Latches.port Findings.port))

/-- PAGE and RESTART before sealing (R180, R185, R186): PAGE needs page 0 or 1 and the phase RUNNING; accepted, it keeps the bytes,
clears the page's valid flag, isolates the part and asks for its job. RESTART begins a cold start that keeps the key store, the frame
and the last result, which is OK. A host byte in progress upstream ends first: the cold start follows what that byte does, and a host
transaction that it leaves in progress meets released lines (log entry 36, DEDUCED). A PAGE accepted in that byte is ended by the cold
start, with last result NONE (log entry 16, DEDUCED). A command with no frame in progress stands for its
whole frame (log entry 19, DESIGN CHOICE). -/
def Obligations.PortPagesAndRestarts : Prop :=
  ∀ (s : State) (number : Byte) (data : Vector Byte 128), s.Settled → s.port.sealed = false → s.port.pagePending = false →
    (s.port.frame = false ∨ s.port.taken = false) →
    let p := { s.port with taken := s.port.frame }
    let ends := fun (r : Result) => .next { s with lines := s.said none none [], port := { p with last := r } }
    (2 ≤ number.toNat → exec (.page number data) s = ends .badArgument) ∧
    (number.toNat < 2 → s.sup.phase ≠ .running → exec (.page number data) s = ends .notReady) ∧
    (number.toNat < 2 → s.sup.phase = .running → exec (.page number data) s = .next { s with
      lines := s.said none none []
      port := { p with
        last := .pending, pagePending := true, pageNo := number.toNat, pageData := data.toList, pageResult := .writeFailed }
      win := if number = 0 then { s.win with page0Valid := false } else { s.win with page1Valid := false }
      path := { s.path with causePage := true, jobs := s.path.withJob .pageWrite } }) ∧
    let restarted := fun (u : State) (port : Port) => { State.reset with
      pins := u.pins
      lines := { u.lines with seg := u.lines.seg ++ (if u.path.segOpen = true ∨ u.path.run.isSome = true then [.stop] else []) }
      path := { Path.cold u.pins.strap with phase := if u.path.phase = .idle then .idle else .refused }
      dec := { State.reset.dec with key := u.dec.key }
      port := port
      sup := { State.reset.sup with subSec := u.sup.subSec }
      free := u.free, pending := u.pending }
    let asked := fun (pending : Bool) => { s with
      lines := s.said none none []
      port := { p with last := if pending then .pending else .ok, pagePending := pending }
      sup := { s.sup with restartDue := true } }
    (s.pins.midByte = false →
      exec .restart s = .next (restarted { s with lines := s.said none none [] } { p with last := .ok })) ∧
    (s.pins.midByte = true → exec .restart s = .next (asked false) ∧
      ∀ (pending : Bool) (select : BitVec 7) (dir : Dir) (byte : Byte) (ack : Bool) (c : Instr),
        c = .addressByte select dir ack ∨ c = .wordAddressByte byte ack ∨ c = .hostWriteDataByte byte ack ∨
          c = .hostReadDataByte byte ack ∨ c = .foreignByte byte ack ∨ c = .hostStop →
        ∃ u, exec c { asked pending with sup := { s.sup with restartDue := false } } = .next u ∧
          exec c (asked pending) =
            .next (restarted u (if pending then { u.port with last := .noResult, pagePending := false } else u.port))) ∧
    (∀ (byte : Byte) (ack : Bool), State.Quiet { s with path := { s.path with phase := .refused } } →
      let u := { s with path := { s.path with phase := .refused } }
      exec (.hostWriteDataByte byte ack) u = .next { u with lines := s.said (some false) none [], pins := s.byteOver } ∧
      exec (.hostReadDataByte byte ack) u = .next { u with lines := s.said none (some 0xFF) [], pins := s.byteOver } ∧
      exec (.foreignByte byte ack) u = .next { u with lines := s.said (some false) (some 0xFF) [], pins := s.byteOver })

/-- PAGE_WRITE_DONE, PAGE_WRITE_RESULT, and POINTER_RESTORE_END of a PAGE WRITE (R27, R185): the write is polled for and read back; a
NACK or a byte that differs gives WRITE_FAILED, a copy that agrees but fails its page's checks PAGE_INVALID, and otherwise OK. Nothing
comes into force. When the restore has ended the result replaces the last result, PENDING or another (log entry 14, DEDUCED), and the PAGE
cause is cleared. The mirror pointer after a read that ended at a select is log entry 22 (DEDUCED). -/
def Obligations.PageJobGivesResult : Prop :=
  ∀ (s : State) (run : JobRun) (w : WriteResult) (r : ReadResult 128) (ok : Bool), s.Quiet → s.path.run = some run →
    s.path.stopOwed = false →
    let base := pageAddr s.port.pageNo
    let on := fun (stage : JobStage) (act : OwnAct) (mirror : Option Addr) => { s with
      lines := s.said none none [s.own act]
      path := { s.path with run := some { run with stage := stage }, pollTime := 0, mirror := mirror } }
    let valid := if s.port.pageNo = 0 then (validLayout s.port.pageData).isSome else (validCalibration s.port.pageData).isSome
    let result := if readBytes r ≠ some s.port.pageData then Result.writeFailed else if valid then .ok else .pageInvalid
    (run.stage = .pageWrite → exec (.pageWriteDone .acked) s = .next (on .pagePoll .poll (some base))) ∧
    (run.stage = .pageWrite → w ≠ .acked → exec (.pageWriteDone w) s =
      .next { on .restore (.write (s.path.hostPtr.getD 0) []) none with port := { s.port with pageResult := .writeFailed } }) ∧
    (run.stage = .pageRead → exec (.pageWriteResult r) s =
      .next { on .restore (.write (s.path.hostPtr.getD 0) []) (match r with
          | .bytes _ => some (base + 128)
          | .selectNack => s.path.mirror
          | .wordNack => none
          | .readSelectNack => some base) with
        port := { s.port with pageResult := result } }) ∧
    (s.path.owner = .own → run = { kind := .pageWrite, stage := .restore } → exec (.pointerRestoreEnd ok) s = .next { s with
      lines := s.said none none []
      path := { s.path with
        owner := .free, run := none, behind := [], pollTime := 0, causePage := false
        mirror := if ok then some (s.path.hostPtr.getD 0) else none
        hostPtr := if ok then some (s.path.hostPtr.getD 0) else s.path.hostPtr
        jobs := if ok then s.path.jobs else s.path.withJob .restore }
      port := { s.port with last := s.port.pageResult, pagePending := false } })

/-! ## What every step keeps -/

/-- R2, R3, R18: the memory segment has one owner: it is OWN just while a job holds it, a host transaction is open on it only while it is
HOST, only a job waits behind a STOP that is owed, and no kind of job waits twice. -/
def Obligations.StepsKeepOneOwner : Prop := ∀ s t : State, s.OneOwner → step s = .next t → t.OneOwner

/-- R55, R64, R65, R67 to R71, R114: the account's quantities, the rates, the limits and the allowances stay in their ranges, with the
changes that are held or carried, and the credit balance never lies below its floor. -/
def Obligations.StepsKeepAccountInRange : Prop := ∀ s t : State, s.AccountInRange → step s = .next t → t.AccountInRange

/-- R100, R104, R124, R142, R148, R149, R154, R155, R164, R166: the lists and the counts stay within their bounds, and a one-shot latch
is never ACTIVE. -/
def Obligations.StepsKeepBounds : Prop :=
  ∀ s t : State, s.Bounded → s.CountsInRange → s.OneShotNeverActive → step s = .next t →
    t.Bounded ∧ t.CountsInRange ∧ t.OneShotNeverActive

/-- R19, R20, R54, R146, R177: the part is isolated in every phase but RUNNING, and in HOLD it rests: no owner, no frames, no capture
and no relay operation. -/
def Obligations.StepsKeepHoldAtRest : Prop := ∀ s t : State, s.RestsInHold → step s = .next t → t.RestsInHold

/-- R108, R181, R184, R186, R187: no step undoes the seal or changes a key once loaded, and after sealing no step loads one. -/
def Obligations.StepsKeepSealAndKey : Prop :=
  ∀ s t : State, step s = .next t →
    (s.port.sealed = true → t.port.sealed = true ∧ t.dec.key = s.dec.key) ∧
    (∀ k, s.dec.key = some k → t.dec.key = some k)

/-- R2, R19, R55, R100, R124, R148, R164: the state right after reset satisfies what every step keeps. -/
def Obligations.ResetSatisfiesInvariants : Prop :=
  State.reset.OneOwner ∧ State.reset.AccountInRange ∧ State.reset.Bounded ∧ State.reset.CountsInRange ∧
  State.reset.OneShotNeverActive ∧ State.reset.RestsInHold
end

