-- ==== Sys2Proof/Laws/State.lean ====
section
/-! SUPPORT. The fields of a state after the change of one block: one lemma per field per change, so that no proof unfolds a record
update. -/

namespace Sys2Proof.Machine

open Sys2Proof

variable (s : State)

/-! ### State.modPins -/

@[simp] theorem State.modPins_pins (f : Pins → Pins) : (s.modPins f).pins = f s.pins := rfl
@[simp] theorem State.modPins_lines (f : Pins → Pins) : (s.modPins f).lines = s.lines := rfl
@[simp] theorem State.modPins_path (f : Pins → Pins) : (s.modPins f).path = s.path := rfl
@[simp] theorem State.modPins_win (f : Pins → Pins) : (s.modPins f).win = s.win := rfl
@[simp] theorem State.modPins_smp (f : Pins → Pins) : (s.modPins f).smp = s.smp := rfl
@[simp] theorem State.modPins_eng (f : Pins → Pins) : (s.modPins f).eng = s.eng := rfl
@[simp] theorem State.modPins_sto (f : Pins → Pins) : (s.modPins f).sto = s.sto := rfl
@[simp] theorem State.modPins_dec (f : Pins → Pins) : (s.modPins f).dec = s.dec := rfl
@[simp] theorem State.modPins_sw (f : Pins → Pins) : (s.modPins f).sw = s.sw := rfl
@[simp] theorem State.modPins_tam (f : Pins → Pins) : (s.modPins f).tam = s.tam := rfl
@[simp] theorem State.modPins_log (f : Pins → Pins) : (s.modPins f).log = s.log := rfl
@[simp] theorem State.modPins_sup (f : Pins → Pins) : (s.modPins f).sup = s.sup := rfl
@[simp] theorem State.modPins_port (f : Pins → Pins) : (s.modPins f).port = s.port := rfl
@[simp] theorem State.modPins_free (f : Pins → Pins) : (s.modPins f).free = s.free := rfl
@[simp] theorem State.modPins_pending (f : Pins → Pins) : (s.modPins f).pending = s.pending := rfl

/-! ### State.modLines -/

@[simp] theorem State.modLines_pins (f : Lines → Lines) : (s.modLines f).pins = s.pins := rfl
@[simp] theorem State.modLines_lines (f : Lines → Lines) : (s.modLines f).lines = f s.lines := rfl
@[simp] theorem State.modLines_path (f : Lines → Lines) : (s.modLines f).path = s.path := rfl
@[simp] theorem State.modLines_win (f : Lines → Lines) : (s.modLines f).win = s.win := rfl
@[simp] theorem State.modLines_smp (f : Lines → Lines) : (s.modLines f).smp = s.smp := rfl
@[simp] theorem State.modLines_eng (f : Lines → Lines) : (s.modLines f).eng = s.eng := rfl
@[simp] theorem State.modLines_sto (f : Lines → Lines) : (s.modLines f).sto = s.sto := rfl
@[simp] theorem State.modLines_dec (f : Lines → Lines) : (s.modLines f).dec = s.dec := rfl
@[simp] theorem State.modLines_sw (f : Lines → Lines) : (s.modLines f).sw = s.sw := rfl
@[simp] theorem State.modLines_tam (f : Lines → Lines) : (s.modLines f).tam = s.tam := rfl
@[simp] theorem State.modLines_log (f : Lines → Lines) : (s.modLines f).log = s.log := rfl
@[simp] theorem State.modLines_sup (f : Lines → Lines) : (s.modLines f).sup = s.sup := rfl
@[simp] theorem State.modLines_port (f : Lines → Lines) : (s.modLines f).port = s.port := rfl
@[simp] theorem State.modLines_free (f : Lines → Lines) : (s.modLines f).free = s.free := rfl
@[simp] theorem State.modLines_pending (f : Lines → Lines) : (s.modLines f).pending = s.pending := rfl

/-! ### State.modPath -/

@[simp] theorem State.modPath_pins (f : Path → Path) : (s.modPath f).pins = s.pins := rfl
@[simp] theorem State.modPath_lines (f : Path → Path) : (s.modPath f).lines = s.lines := rfl
@[simp] theorem State.modPath_path (f : Path → Path) : (s.modPath f).path = f s.path := rfl
@[simp] theorem State.modPath_win (f : Path → Path) : (s.modPath f).win = s.win := rfl
@[simp] theorem State.modPath_smp (f : Path → Path) : (s.modPath f).smp = s.smp := rfl
@[simp] theorem State.modPath_eng (f : Path → Path) : (s.modPath f).eng = s.eng := rfl
@[simp] theorem State.modPath_sto (f : Path → Path) : (s.modPath f).sto = s.sto := rfl
@[simp] theorem State.modPath_dec (f : Path → Path) : (s.modPath f).dec = s.dec := rfl
@[simp] theorem State.modPath_sw (f : Path → Path) : (s.modPath f).sw = s.sw := rfl
@[simp] theorem State.modPath_tam (f : Path → Path) : (s.modPath f).tam = s.tam := rfl
@[simp] theorem State.modPath_log (f : Path → Path) : (s.modPath f).log = s.log := rfl
@[simp] theorem State.modPath_sup (f : Path → Path) : (s.modPath f).sup = s.sup := rfl
@[simp] theorem State.modPath_port (f : Path → Path) : (s.modPath f).port = s.port := rfl
@[simp] theorem State.modPath_free (f : Path → Path) : (s.modPath f).free = s.free := rfl
@[simp] theorem State.modPath_pending (f : Path → Path) : (s.modPath f).pending = s.pending := rfl

/-! ### State.modWin -/

@[simp] theorem State.modWin_pins (f : WindowMap → WindowMap) : (s.modWin f).pins = s.pins := rfl
@[simp] theorem State.modWin_lines (f : WindowMap → WindowMap) : (s.modWin f).lines = s.lines := rfl
@[simp] theorem State.modWin_path (f : WindowMap → WindowMap) : (s.modWin f).path = s.path := rfl
@[simp] theorem State.modWin_win (f : WindowMap → WindowMap) : (s.modWin f).win = f s.win := rfl
@[simp] theorem State.modWin_smp (f : WindowMap → WindowMap) : (s.modWin f).smp = s.smp := rfl
@[simp] theorem State.modWin_eng (f : WindowMap → WindowMap) : (s.modWin f).eng = s.eng := rfl
@[simp] theorem State.modWin_sto (f : WindowMap → WindowMap) : (s.modWin f).sto = s.sto := rfl
@[simp] theorem State.modWin_dec (f : WindowMap → WindowMap) : (s.modWin f).dec = s.dec := rfl
@[simp] theorem State.modWin_sw (f : WindowMap → WindowMap) : (s.modWin f).sw = s.sw := rfl
@[simp] theorem State.modWin_tam (f : WindowMap → WindowMap) : (s.modWin f).tam = s.tam := rfl
@[simp] theorem State.modWin_log (f : WindowMap → WindowMap) : (s.modWin f).log = s.log := rfl
@[simp] theorem State.modWin_sup (f : WindowMap → WindowMap) : (s.modWin f).sup = s.sup := rfl
@[simp] theorem State.modWin_port (f : WindowMap → WindowMap) : (s.modWin f).port = s.port := rfl
@[simp] theorem State.modWin_free (f : WindowMap → WindowMap) : (s.modWin f).free = s.free := rfl
@[simp] theorem State.modWin_pending (f : WindowMap → WindowMap) : (s.modWin f).pending = s.pending := rfl

/-! ### State.modSmp -/

@[simp] theorem State.modSmp_pins (f : Sampling → Sampling) : (s.modSmp f).pins = s.pins := rfl
@[simp] theorem State.modSmp_lines (f : Sampling → Sampling) : (s.modSmp f).lines = s.lines := rfl
@[simp] theorem State.modSmp_path (f : Sampling → Sampling) : (s.modSmp f).path = s.path := rfl
@[simp] theorem State.modSmp_win (f : Sampling → Sampling) : (s.modSmp f).win = s.win := rfl
@[simp] theorem State.modSmp_smp (f : Sampling → Sampling) : (s.modSmp f).smp = f s.smp := rfl
@[simp] theorem State.modSmp_eng (f : Sampling → Sampling) : (s.modSmp f).eng = s.eng := rfl
@[simp] theorem State.modSmp_sto (f : Sampling → Sampling) : (s.modSmp f).sto = s.sto := rfl
@[simp] theorem State.modSmp_dec (f : Sampling → Sampling) : (s.modSmp f).dec = s.dec := rfl
@[simp] theorem State.modSmp_sw (f : Sampling → Sampling) : (s.modSmp f).sw = s.sw := rfl
@[simp] theorem State.modSmp_tam (f : Sampling → Sampling) : (s.modSmp f).tam = s.tam := rfl
@[simp] theorem State.modSmp_log (f : Sampling → Sampling) : (s.modSmp f).log = s.log := rfl
@[simp] theorem State.modSmp_sup (f : Sampling → Sampling) : (s.modSmp f).sup = s.sup := rfl
@[simp] theorem State.modSmp_port (f : Sampling → Sampling) : (s.modSmp f).port = s.port := rfl
@[simp] theorem State.modSmp_free (f : Sampling → Sampling) : (s.modSmp f).free = s.free := rfl
@[simp] theorem State.modSmp_pending (f : Sampling → Sampling) : (s.modSmp f).pending = s.pending := rfl

/-! ### State.modEng -/

@[simp] theorem State.modEng_pins (f : Engine → Engine) : (s.modEng f).pins = s.pins := rfl
@[simp] theorem State.modEng_lines (f : Engine → Engine) : (s.modEng f).lines = s.lines := rfl
@[simp] theorem State.modEng_path (f : Engine → Engine) : (s.modEng f).path = s.path := rfl
@[simp] theorem State.modEng_win (f : Engine → Engine) : (s.modEng f).win = s.win := rfl
@[simp] theorem State.modEng_smp (f : Engine → Engine) : (s.modEng f).smp = s.smp := rfl
@[simp] theorem State.modEng_eng (f : Engine → Engine) : (s.modEng f).eng = f s.eng := rfl
@[simp] theorem State.modEng_sto (f : Engine → Engine) : (s.modEng f).sto = s.sto := rfl
@[simp] theorem State.modEng_dec (f : Engine → Engine) : (s.modEng f).dec = s.dec := rfl
@[simp] theorem State.modEng_sw (f : Engine → Engine) : (s.modEng f).sw = s.sw := rfl
@[simp] theorem State.modEng_tam (f : Engine → Engine) : (s.modEng f).tam = s.tam := rfl
@[simp] theorem State.modEng_log (f : Engine → Engine) : (s.modEng f).log = s.log := rfl
@[simp] theorem State.modEng_sup (f : Engine → Engine) : (s.modEng f).sup = s.sup := rfl
@[simp] theorem State.modEng_port (f : Engine → Engine) : (s.modEng f).port = s.port := rfl
@[simp] theorem State.modEng_free (f : Engine → Engine) : (s.modEng f).free = s.free := rfl
@[simp] theorem State.modEng_pending (f : Engine → Engine) : (s.modEng f).pending = s.pending := rfl

/-! ### State.modSto -/

@[simp] theorem State.modSto_pins (f : Store → Store) : (s.modSto f).pins = s.pins := rfl
@[simp] theorem State.modSto_lines (f : Store → Store) : (s.modSto f).lines = s.lines := rfl
@[simp] theorem State.modSto_path (f : Store → Store) : (s.modSto f).path = s.path := rfl
@[simp] theorem State.modSto_win (f : Store → Store) : (s.modSto f).win = s.win := rfl
@[simp] theorem State.modSto_smp (f : Store → Store) : (s.modSto f).smp = s.smp := rfl
@[simp] theorem State.modSto_eng (f : Store → Store) : (s.modSto f).eng = s.eng := rfl
@[simp] theorem State.modSto_sto (f : Store → Store) : (s.modSto f).sto = f s.sto := rfl
@[simp] theorem State.modSto_dec (f : Store → Store) : (s.modSto f).dec = s.dec := rfl
@[simp] theorem State.modSto_sw (f : Store → Store) : (s.modSto f).sw = s.sw := rfl
@[simp] theorem State.modSto_tam (f : Store → Store) : (s.modSto f).tam = s.tam := rfl
@[simp] theorem State.modSto_log (f : Store → Store) : (s.modSto f).log = s.log := rfl
@[simp] theorem State.modSto_sup (f : Store → Store) : (s.modSto f).sup = s.sup := rfl
@[simp] theorem State.modSto_port (f : Store → Store) : (s.modSto f).port = s.port := rfl
@[simp] theorem State.modSto_free (f : Store → Store) : (s.modSto f).free = s.free := rfl
@[simp] theorem State.modSto_pending (f : Store → Store) : (s.modSto f).pending = s.pending := rfl

/-! ### State.modDec -/

@[simp] theorem State.modDec_pins (f : Decoder → Decoder) : (s.modDec f).pins = s.pins := rfl
@[simp] theorem State.modDec_lines (f : Decoder → Decoder) : (s.modDec f).lines = s.lines := rfl
@[simp] theorem State.modDec_path (f : Decoder → Decoder) : (s.modDec f).path = s.path := rfl
@[simp] theorem State.modDec_win (f : Decoder → Decoder) : (s.modDec f).win = s.win := rfl
@[simp] theorem State.modDec_smp (f : Decoder → Decoder) : (s.modDec f).smp = s.smp := rfl
@[simp] theorem State.modDec_eng (f : Decoder → Decoder) : (s.modDec f).eng = s.eng := rfl
@[simp] theorem State.modDec_sto (f : Decoder → Decoder) : (s.modDec f).sto = s.sto := rfl
@[simp] theorem State.modDec_dec (f : Decoder → Decoder) : (s.modDec f).dec = f s.dec := rfl
@[simp] theorem State.modDec_sw (f : Decoder → Decoder) : (s.modDec f).sw = s.sw := rfl
@[simp] theorem State.modDec_tam (f : Decoder → Decoder) : (s.modDec f).tam = s.tam := rfl
@[simp] theorem State.modDec_log (f : Decoder → Decoder) : (s.modDec f).log = s.log := rfl
@[simp] theorem State.modDec_sup (f : Decoder → Decoder) : (s.modDec f).sup = s.sup := rfl
@[simp] theorem State.modDec_port (f : Decoder → Decoder) : (s.modDec f).port = s.port := rfl
@[simp] theorem State.modDec_free (f : Decoder → Decoder) : (s.modDec f).free = s.free := rfl
@[simp] theorem State.modDec_pending (f : Decoder → Decoder) : (s.modDec f).pending = s.pending := rfl

/-! ### State.modSw -/

@[simp] theorem State.modSw_pins (f : Switch → Switch) : (s.modSw f).pins = s.pins := rfl
@[simp] theorem State.modSw_lines (f : Switch → Switch) : (s.modSw f).lines = s.lines := rfl
@[simp] theorem State.modSw_path (f : Switch → Switch) : (s.modSw f).path = s.path := rfl
@[simp] theorem State.modSw_win (f : Switch → Switch) : (s.modSw f).win = s.win := rfl
@[simp] theorem State.modSw_smp (f : Switch → Switch) : (s.modSw f).smp = s.smp := rfl
@[simp] theorem State.modSw_eng (f : Switch → Switch) : (s.modSw f).eng = s.eng := rfl
@[simp] theorem State.modSw_sto (f : Switch → Switch) : (s.modSw f).sto = s.sto := rfl
@[simp] theorem State.modSw_dec (f : Switch → Switch) : (s.modSw f).dec = s.dec := rfl
@[simp] theorem State.modSw_sw (f : Switch → Switch) : (s.modSw f).sw = f s.sw := rfl
@[simp] theorem State.modSw_tam (f : Switch → Switch) : (s.modSw f).tam = s.tam := rfl
@[simp] theorem State.modSw_log (f : Switch → Switch) : (s.modSw f).log = s.log := rfl
@[simp] theorem State.modSw_sup (f : Switch → Switch) : (s.modSw f).sup = s.sup := rfl
@[simp] theorem State.modSw_port (f : Switch → Switch) : (s.modSw f).port = s.port := rfl
@[simp] theorem State.modSw_free (f : Switch → Switch) : (s.modSw f).free = s.free := rfl
@[simp] theorem State.modSw_pending (f : Switch → Switch) : (s.modSw f).pending = s.pending := rfl

/-! ### State.modTam -/

@[simp] theorem State.modTam_pins (f : Tamper → Tamper) : (s.modTam f).pins = s.pins := rfl
@[simp] theorem State.modTam_lines (f : Tamper → Tamper) : (s.modTam f).lines = s.lines := rfl
@[simp] theorem State.modTam_path (f : Tamper → Tamper) : (s.modTam f).path = s.path := rfl
@[simp] theorem State.modTam_win (f : Tamper → Tamper) : (s.modTam f).win = s.win := rfl
@[simp] theorem State.modTam_smp (f : Tamper → Tamper) : (s.modTam f).smp = s.smp := rfl
@[simp] theorem State.modTam_eng (f : Tamper → Tamper) : (s.modTam f).eng = s.eng := rfl
@[simp] theorem State.modTam_sto (f : Tamper → Tamper) : (s.modTam f).sto = s.sto := rfl
@[simp] theorem State.modTam_dec (f : Tamper → Tamper) : (s.modTam f).dec = s.dec := rfl
@[simp] theorem State.modTam_sw (f : Tamper → Tamper) : (s.modTam f).sw = s.sw := rfl
@[simp] theorem State.modTam_tam (f : Tamper → Tamper) : (s.modTam f).tam = f s.tam := rfl
@[simp] theorem State.modTam_log (f : Tamper → Tamper) : (s.modTam f).log = s.log := rfl
@[simp] theorem State.modTam_sup (f : Tamper → Tamper) : (s.modTam f).sup = s.sup := rfl
@[simp] theorem State.modTam_port (f : Tamper → Tamper) : (s.modTam f).port = s.port := rfl
@[simp] theorem State.modTam_free (f : Tamper → Tamper) : (s.modTam f).free = s.free := rfl
@[simp] theorem State.modTam_pending (f : Tamper → Tamper) : (s.modTam f).pending = s.pending := rfl

/-! ### State.modLog -/

@[simp] theorem State.modLog_pins (f : EventLog → EventLog) : (s.modLog f).pins = s.pins := rfl
@[simp] theorem State.modLog_lines (f : EventLog → EventLog) : (s.modLog f).lines = s.lines := rfl
@[simp] theorem State.modLog_path (f : EventLog → EventLog) : (s.modLog f).path = s.path := rfl
@[simp] theorem State.modLog_win (f : EventLog → EventLog) : (s.modLog f).win = s.win := rfl
@[simp] theorem State.modLog_smp (f : EventLog → EventLog) : (s.modLog f).smp = s.smp := rfl
@[simp] theorem State.modLog_eng (f : EventLog → EventLog) : (s.modLog f).eng = s.eng := rfl
@[simp] theorem State.modLog_sto (f : EventLog → EventLog) : (s.modLog f).sto = s.sto := rfl
@[simp] theorem State.modLog_dec (f : EventLog → EventLog) : (s.modLog f).dec = s.dec := rfl
@[simp] theorem State.modLog_sw (f : EventLog → EventLog) : (s.modLog f).sw = s.sw := rfl
@[simp] theorem State.modLog_tam (f : EventLog → EventLog) : (s.modLog f).tam = s.tam := rfl
@[simp] theorem State.modLog_log (f : EventLog → EventLog) : (s.modLog f).log = f s.log := rfl
@[simp] theorem State.modLog_sup (f : EventLog → EventLog) : (s.modLog f).sup = s.sup := rfl
@[simp] theorem State.modLog_port (f : EventLog → EventLog) : (s.modLog f).port = s.port := rfl
@[simp] theorem State.modLog_free (f : EventLog → EventLog) : (s.modLog f).free = s.free := rfl
@[simp] theorem State.modLog_pending (f : EventLog → EventLog) : (s.modLog f).pending = s.pending := rfl

/-! ### State.modSup -/

@[simp] theorem State.modSup_pins (f : Supply → Supply) : (s.modSup f).pins = s.pins := rfl
@[simp] theorem State.modSup_lines (f : Supply → Supply) : (s.modSup f).lines = s.lines := rfl
@[simp] theorem State.modSup_path (f : Supply → Supply) : (s.modSup f).path = s.path := rfl
@[simp] theorem State.modSup_win (f : Supply → Supply) : (s.modSup f).win = s.win := rfl
@[simp] theorem State.modSup_smp (f : Supply → Supply) : (s.modSup f).smp = s.smp := rfl
@[simp] theorem State.modSup_eng (f : Supply → Supply) : (s.modSup f).eng = s.eng := rfl
@[simp] theorem State.modSup_sto (f : Supply → Supply) : (s.modSup f).sto = s.sto := rfl
@[simp] theorem State.modSup_dec (f : Supply → Supply) : (s.modSup f).dec = s.dec := rfl
@[simp] theorem State.modSup_sw (f : Supply → Supply) : (s.modSup f).sw = s.sw := rfl
@[simp] theorem State.modSup_tam (f : Supply → Supply) : (s.modSup f).tam = s.tam := rfl
@[simp] theorem State.modSup_log (f : Supply → Supply) : (s.modSup f).log = s.log := rfl
@[simp] theorem State.modSup_sup (f : Supply → Supply) : (s.modSup f).sup = f s.sup := rfl
@[simp] theorem State.modSup_port (f : Supply → Supply) : (s.modSup f).port = s.port := rfl
@[simp] theorem State.modSup_free (f : Supply → Supply) : (s.modSup f).free = s.free := rfl
@[simp] theorem State.modSup_pending (f : Supply → Supply) : (s.modSup f).pending = s.pending := rfl

/-! ### State.modPort -/

@[simp] theorem State.modPort_pins (f : Port → Port) : (s.modPort f).pins = s.pins := rfl
@[simp] theorem State.modPort_lines (f : Port → Port) : (s.modPort f).lines = s.lines := rfl
@[simp] theorem State.modPort_path (f : Port → Port) : (s.modPort f).path = s.path := rfl
@[simp] theorem State.modPort_win (f : Port → Port) : (s.modPort f).win = s.win := rfl
@[simp] theorem State.modPort_smp (f : Port → Port) : (s.modPort f).smp = s.smp := rfl
@[simp] theorem State.modPort_eng (f : Port → Port) : (s.modPort f).eng = s.eng := rfl
@[simp] theorem State.modPort_sto (f : Port → Port) : (s.modPort f).sto = s.sto := rfl
@[simp] theorem State.modPort_dec (f : Port → Port) : (s.modPort f).dec = s.dec := rfl
@[simp] theorem State.modPort_sw (f : Port → Port) : (s.modPort f).sw = s.sw := rfl
@[simp] theorem State.modPort_tam (f : Port → Port) : (s.modPort f).tam = s.tam := rfl
@[simp] theorem State.modPort_log (f : Port → Port) : (s.modPort f).log = s.log := rfl
@[simp] theorem State.modPort_sup (f : Port → Port) : (s.modPort f).sup = s.sup := rfl
@[simp] theorem State.modPort_port (f : Port → Port) : (s.modPort f).port = f s.port := rfl
@[simp] theorem State.modPort_free (f : Port → Port) : (s.modPort f).free = s.free := rfl
@[simp] theorem State.modPort_pending (f : Port → Port) : (s.modPort f).pending = s.pending := rfl

end Sys2Proof.Machine
end

