-- ==== Sys2Proof/Laws/Frame.lean ====
section
/-! SUPPORT. Frames: `Frame l s t` says that `t` differs from `s` at most in the blocks of `l`. The frame of an operation is stated as
a rewriting rule that drops the operation, so that the frame of a chain of operations is found by simp. -/

namespace Sys2Proof.Machine

open Sys2Proof

/-- The fifteen fields of a state. -/
inductive Block where
  | pins
  | lines
  | path
  | win
  | smp
  | eng
  | sto
  | dec
  | sw
  | tam
  | log
  | sup
  | port
  | free
  | pending
deriving DecidableEq, Repr

/-- Two states have the same block. -/
def State.agrees (s t : State) : Block → Prop
  | .pins => t.pins = s.pins
  | .lines => t.lines = s.lines
  | .path => t.path = s.path
  | .win => t.win = s.win
  | .smp => t.smp = s.smp
  | .eng => t.eng = s.eng
  | .sto => t.sto = s.sto
  | .dec => t.dec = s.dec
  | .sw => t.sw = s.sw
  | .tam => t.tam = s.tam
  | .log => t.log = s.log
  | .sup => t.sup = s.sup
  | .port => t.port = s.port
  | .free => t.free = s.free
  | .pending => t.pending = s.pending

/-- The second state differs from the first at most in the blocks of the list. -/
def Frame (l : List Block) (s t : State) : Prop := ∀ b, b ∉ l → s.agrees t b

variable {l : List Block} {s t u : State}

theorem State.agrees_trans {b : Block} (h : s.agrees t b) (g : t.agrees u b) : s.agrees u b := by
  cases b <;> exact Eq.trans g h

theorem State.agrees_symm {b : Block} (h : s.agrees t b) : t.agrees s b := by
  cases b <;> exact Eq.symm h

@[simp] theorem Frame.refl (l : List Block) (s : State) : Frame l s s := by
  intro b _
  cases b <;> rfl

theorem Frame.trans (h : Frame l s t) (g : Frame l t u) : Frame l s u :=
  fun b hb => State.agrees_trans (h b hb) (g b hb)

theorem Frame.symm (h : Frame l s t) : Frame l t s := fun b hb => State.agrees_symm (h b hb)

/-- An operation whose frame lies within `l` may be dropped. -/
theorem Frame.drop (g : Frame l t u) : Frame l s u ↔ Frame l s t :=
  ⟨fun h => h.trans g.symm, fun h => h.trans g⟩

/-- A frame with a choice is that of both branches. -/
@[simp ↓] theorem Frame.ite {c : Prop} {_ : Decidable c} {a b : State} :
    Frame l s (if c then a else b) ↔ (c → Frame l s a) ∧ (¬c → Frame l s b) := by
  split <;> simp_all

/-! ## What a frame gives -/

theorem Frame.pins (h : Frame l s t) (hb : .pins ∉ l) : t.pins = s.pins := h .pins hb
theorem Frame.lines (h : Frame l s t) (hb : .lines ∉ l) : t.lines = s.lines := h .lines hb
theorem Frame.path (h : Frame l s t) (hb : .path ∉ l) : t.path = s.path := h .path hb
theorem Frame.win (h : Frame l s t) (hb : .win ∉ l) : t.win = s.win := h .win hb
theorem Frame.smp (h : Frame l s t) (hb : .smp ∉ l) : t.smp = s.smp := h .smp hb
theorem Frame.eng (h : Frame l s t) (hb : .eng ∉ l) : t.eng = s.eng := h .eng hb
theorem Frame.sto (h : Frame l s t) (hb : .sto ∉ l) : t.sto = s.sto := h .sto hb
theorem Frame.dec (h : Frame l s t) (hb : .dec ∉ l) : t.dec = s.dec := h .dec hb
theorem Frame.sw (h : Frame l s t) (hb : .sw ∉ l) : t.sw = s.sw := h .sw hb
theorem Frame.tam (h : Frame l s t) (hb : .tam ∉ l) : t.tam = s.tam := h .tam hb
theorem Frame.log (h : Frame l s t) (hb : .log ∉ l) : t.log = s.log := h .log hb
theorem Frame.sup (h : Frame l s t) (hb : .sup ∉ l) : t.sup = s.sup := h .sup hb
theorem Frame.port (h : Frame l s t) (hb : .port ∉ l) : t.port = s.port := h .port hb
theorem Frame.free (h : Frame l s t) (hb : .free ∉ l) : t.free = s.free := h .free hb
theorem Frame.pending (h : Frame l s t) (hb : .pending ∉ l) : t.pending = s.pending := h .pending hb

/-! ## One block at a time -/

@[simp ↓] theorem Frame.modPins {f : Pins → Pins} (h : .pins ∈ l) : Frame l s (t.modPins f) ↔ Frame l s t :=
  Frame.drop (by intro b hb; cases b <;> first | rfl | exact absurd h hb)
@[simp ↓] theorem Frame.modLines {f : Lines → Lines} (h : .lines ∈ l) : Frame l s (t.modLines f) ↔ Frame l s t :=
  Frame.drop (by intro b hb; cases b <;> first | rfl | exact absurd h hb)
@[simp ↓] theorem Frame.modPath {f : Path → Path} (h : .path ∈ l) : Frame l s (t.modPath f) ↔ Frame l s t :=
  Frame.drop (by intro b hb; cases b <;> first | rfl | exact absurd h hb)
@[simp ↓] theorem Frame.modWin {f : WindowMap → WindowMap} (h : .win ∈ l) : Frame l s (t.modWin f) ↔ Frame l s t :=
  Frame.drop (by intro b hb; cases b <;> first | rfl | exact absurd h hb)
@[simp ↓] theorem Frame.modSmp {f : Sampling → Sampling} (h : .smp ∈ l) : Frame l s (t.modSmp f) ↔ Frame l s t :=
  Frame.drop (by intro b hb; cases b <;> first | rfl | exact absurd h hb)
@[simp ↓] theorem Frame.modEng {f : Engine → Engine} (h : .eng ∈ l) : Frame l s (t.modEng f) ↔ Frame l s t :=
  Frame.drop (by intro b hb; cases b <;> first | rfl | exact absurd h hb)
@[simp ↓] theorem Frame.modSto {f : Store → Store} (h : .sto ∈ l) : Frame l s (t.modSto f) ↔ Frame l s t :=
  Frame.drop (by intro b hb; cases b <;> first | rfl | exact absurd h hb)
@[simp ↓] theorem Frame.modDec {f : Decoder → Decoder} (h : .dec ∈ l) : Frame l s (t.modDec f) ↔ Frame l s t :=
  Frame.drop (by intro b hb; cases b <;> first | rfl | exact absurd h hb)
@[simp ↓] theorem Frame.modSw {f : Switch → Switch} (h : .sw ∈ l) : Frame l s (t.modSw f) ↔ Frame l s t :=
  Frame.drop (by intro b hb; cases b <;> first | rfl | exact absurd h hb)
@[simp ↓] theorem Frame.modTam {f : Tamper → Tamper} (h : .tam ∈ l) : Frame l s (t.modTam f) ↔ Frame l s t :=
  Frame.drop (by intro b hb; cases b <;> first | rfl | exact absurd h hb)
@[simp ↓] theorem Frame.modLog {f : EventLog → EventLog} (h : .log ∈ l) : Frame l s (t.modLog f) ↔ Frame l s t :=
  Frame.drop (by intro b hb; cases b <;> first | rfl | exact absurd h hb)
@[simp ↓] theorem Frame.modSup {f : Supply → Supply} (h : .sup ∈ l) : Frame l s (t.modSup f) ↔ Frame l s t :=
  Frame.drop (by intro b hb; cases b <;> first | rfl | exact absurd h hb)
@[simp ↓] theorem Frame.modPort {f : Port → Port} (h : .port ∈ l) : Frame l s (t.modPort f) ↔ Frame l s t :=
  Frame.drop (by intro b hb; cases b <;> first | rfl | exact absurd h hb)
@[simp ↓] theorem Frame.withFree {n : Nat} (h : .free ∈ l) : Frame l s { t with free := n } ↔ Frame l s t :=
  Frame.drop (by intro b hb; cases b <;> first | rfl | exact absurd h hb)

end Sys2Proof.Machine
end

