-- ==== Sys2Proof/Laws/OpsFrame.lean ====
section
/-! SUPPORT. Frames of the shared operations of Machine/Ops.lean: which blocks each can change. -/

namespace Sys2Proof.Machine

open Sys2Proof

variable {l : List Block} {s t : State}

@[simp ↓] theorem emit_frame (acts : List SegAct) (h0 : .lines ∈ l) :
    Frame l s (emit acts t) ↔ Frame l s t := Frame.drop (by
  unfold emit
  simp [*])

@[simp ↓] theorem issue_frame (a : OwnAct) (h0 : .lines ∈ l) (h1 : .path ∈ l) :
    Frame l s (issue a t) ↔ Frame l s t := Frame.drop (by
  unfold issue
  simp [*])

@[simp ↓] theorem answer_frame (ack : Bool) (h0 : .lines ∈ l) :
    Frame l s (answer ack t) ↔ Frame l s t := Frame.drop (by
  unfold answer
  simp [*])

@[simp ↓] theorem give_frame (b : Byte) (h0 : .lines ∈ l) :
    Frame l s (give b t) ↔ Frame l s t := Frame.drop (by
  unfold give
  simp [*])

@[simp ↓] theorem releasedByte_frame (d : Dir) (h0 : .lines ∈ l) :
    Frame l s (releasedByte d t) ↔ Frame l s t := Frame.drop (by
  unfold releasedByte
  cases d
  all_goals simp [*])

@[simp ↓] theorem addJob_frame (k : JobKind) (h0 : .path ∈ l) :
    Frame l s (addJob k t) ↔ Frame l s t := Frame.drop (by
  unfold addJob
  simp [*])

@[simp ↓] theorem dropJob_frame (k : JobKind) (h0 : .path ∈ l) :
    Frame l s (dropJob k t) ↔ Frame l s t := Frame.drop (by
  unfold dropJob
  simp [*])

@[simp ↓] theorem countLost_frame (h0 : .log ∈ l) :
    Frame l s (countLost t) ↔ Frame l s t := Frame.drop (by
  unfold countLost
  simp [*])

@[simp ↓] theorem queueEvent_frame (k : EventKind) (d : Nat) (h0 : .path ∈ l) (h1 : .log ∈ l) :
    Frame l s (queueEvent k d t) ↔ Frame l s t := Frame.drop (by
  unfold queueEvent
  simp [*])

@[simp ↓] theorem raiseEvent_frame (k : EventKind) (d : Nat) (h0 : .path ∈ l) (h1 : .log ∈ l) :
    Frame l s (raiseEvent k d t) ↔ Frame l s t := Frame.drop (by
  unfold raiseEvent
  simp [*])

@[simp ↓] theorem mergeRequest_frame (a b : Trigger) (h0 : .path ∈ l) (h1 : .sto ∈ l) :
    Frame l s (mergeRequest a b t) ↔ Frame l s t := Frame.drop (by
  unfold mergeRequest
  simp [*])

@[simp ↓] theorem requestCommit_frame (a : Trigger) (h0 : .path ∈ l) (h1 : .sto ∈ l) :
    Frame l s (requestCommit a t) ↔ Frame l s t := Frame.drop (by
  unfold requestCommit
  repeat' split
  all_goals simp [*])

@[simp ↓] theorem conditionAbsent_frame (k : TamperKind) (h0 : .tam ∈ l) :
    Frame l s (conditionAbsent k t) ↔ Frame l s t := Frame.drop (by
  unfold conditionAbsent
  simp [*])

@[simp ↓] theorem bypassAbsent_frame (h0 : .sw ∈ l) (h1 : .tam ∈ l) :
    Frame l s (bypassAbsent t) ↔ Frame l s t := Frame.drop (by
  unfold bypassAbsent
  simp [*])

@[simp ↓] theorem startOperation_frame (c : Bool) (r : Option Reason) (h0 : .sw ∈ l) (h1 : .tam ∈ l) :
    Frame l s (startOperation c r t) ↔ Frame l s t := Frame.drop (by
  unfold startOperation
  simp [*])

@[simp ↓] theorem enterReason_frame (r : Reason) (h0 : .path ∈ l) (h1 : .sto ∈ l) (h2 : .sw ∈ l) (h3 : .tam ∈ l) :
    Frame l s (enterReason r t) ↔ Frame l s t := Frame.drop (by
  unfold enterReason
  simp [*])

@[simp ↓] theorem overloadTrip_frame (h0 : .path ∈ l) (h1 : .sto ∈ l) (h2 : .sw ∈ l) (h3 : .tam ∈ l) :
    Frame l s (overloadTrip t) ↔ Frame l s t := Frame.drop (by
  unfold overloadTrip
  simp [*])

@[simp ↓] theorem reasonEnters_frame (r : Reason) (h0 : .path ∈ l) (h1 : .sto ∈ l) (h2 : .sw ∈ l) (h3 : .tam ∈ l) :
    Frame l s (reasonEnters r t) ↔ Frame l s t := Frame.drop (by
  unfold reasonEnters
  simp [*])

@[simp ↓] theorem lastReasonLeft_frame (r : Reason) (h0 : .sw ∈ l) (h1 : .tam ∈ l) :
    Frame l s (lastReasonLeft r t) ↔ Frame l s t := Frame.drop (by
  unfold lastReasonLeft
  split
  all_goals simp [*])

@[simp ↓] theorem reasonLeaves_frame (r : Reason) (h0 : .path ∈ l) (h1 : .sto ∈ l) (h2 : .sw ∈ l) (h3 : .tam ∈ l) :
    Frame l s (reasonLeaves r t) ↔ Frame l s t := Frame.drop (by
  unfold reasonLeaves
  simp [*])

@[simp ↓] theorem follow_frame (r : Reason) (b : Bool) (h0 : .path ∈ l) (h1 : .sto ∈ l) (h2 : .sw ∈ l) (h3 : .tam ∈ l) :
    Frame l s (follow r b t) ↔ Frame l s t := Frame.drop (by
  unfold follow
  simp [*])

@[simp ↓] theorem followUnset_frame (b : Bool) (h0 : .path ∈ l) (h1 : .sto ∈ l) (h2 : .sw ∈ l) (h3 : .tam ∈ l) :
    Frame l s (followUnset b t) ↔ Frame l s t := Frame.drop (by
  unfold followUnset
  simp [*])

@[simp ↓] theorem takeReport_frame (r : Report) (h0 : .path ∈ l) (h1 : .sto ∈ l) (h2 : .sw ∈ l) (h3 : .tam ∈ l) :
    Frame l s (takeReport r t) ↔ Frame l s t := Frame.drop (by
  unfold takeReport
  cases r
  all_goals simp [*])

@[simp ↓] theorem report_frame (r : Report) (h0 : .path ∈ l) (h1 : .sto ∈ l) (h2 : .sw ∈ l) (h3 : .tam ∈ l) :
    Frame l s (report r t) ↔ Frame l s t := Frame.drop (by
  unfold report
  simp [*])

@[simp ↓] theorem evalTrip_frame (h0 : .path ∈ l) (h1 : .sto ∈ l) (h2 : .sw ∈ l) (h3 : .tam ∈ l) :
    Frame l s (evalTrip t) ↔ Frame l s t := Frame.drop (by
  unfold evalTrip
  simp [*])

@[simp ↓] theorem moveLatch_frame (b : Bool) (k : TamperKind) (v : Latch) (e : EventKind) (h0 : .path ∈ l) (h1 : .sto ∈ l) (h2 : .sw ∈ l) (h3 : .tam ∈ l) (h4 : .log ∈ l) :
    Frame l s (moveLatch b k v e t) ↔ Frame l s t := Frame.drop (by
  unfold moveLatch
  simp [*])

@[simp ↓] theorem latchPresent_frame (b : Bool) (k : TamperKind) (h0 : .path ∈ l) (h1 : .sto ∈ l) (h2 : .sw ∈ l) (h3 : .tam ∈ l) (h4 : .log ∈ l) :
    Frame l s (latchPresent b k t) ↔ Frame l s t := Frame.drop (by
  unfold latchPresent
  simp [*])

@[simp ↓] theorem latchFinding_frame (b : Bool) (k : TamperKind) (h0 : .path ∈ l) (h1 : .sto ∈ l) (h2 : .sw ∈ l) (h3 : .tam ∈ l) (h4 : .log ∈ l) :
    Frame l s (latchFinding b k t) ↔ Frame l s t := Frame.drop (by
  unfold latchFinding
  simp [*])

@[simp ↓] theorem meetGrant_frame (k : TamperKind) (h0 : .sto ∈ l) :
    Frame l s (meetGrant k t) ↔ Frame l s t := Frame.drop (by
  unfold meetGrant
  simp [*])

@[simp ↓] theorem conditionPresent_frame (k : TamperKind) (h0 : .path ∈ l) (h1 : .sto ∈ l) (h2 : .sw ∈ l) (h3 : .tam ∈ l) (h4 : .log ∈ l) :
    Frame l s (conditionPresent k t) ↔ Frame l s t := Frame.drop (by
  unfold conditionPresent
  simp [*])

@[simp ↓] theorem finding_frame (k : TamperKind) (h0 : .path ∈ l) (h1 : .sto ∈ l) (h2 : .sw ∈ l) (h3 : .tam ∈ l) (h4 : .log ∈ l) :
    Frame l s (finding k t) ↔ Frame l s t := Frame.drop (by
  unfold finding
  simp [*])

@[simp ↓] theorem bypassPresent_frame (h0 : .path ∈ l) (h1 : .sto ∈ l) (h2 : .sw ∈ l) (h3 : .tam ∈ l) (h4 : .log ∈ l) :
    Frame l s (bypassPresent t) ↔ Frame l s t := Frame.drop (by
  unfold bypassPresent
  simp [*])

@[simp ↓] theorem clearHeld_frame (m : BitVec 10) (ks : List TamperKind) (h0 : .path ∈ l) (h1 : .sto ∈ l) (h2 : .sw ∈ l) (h3 : .tam ∈ l) (h4 : .log ∈ l) :
    Frame l s (clearHeld m ks t) ↔ Frame l s t := Frame.drop (by
  induction ks generalizing t with
  | nil => exact Frame.refl l t
  | cons k ks ih => exact Frame.trans (by simp [*]) ih)

@[simp ↓] theorem applyClear_frame (m : BitVec 10) (h0 : .path ∈ l) (h1 : .sto ∈ l) (h2 : .sw ∈ l) (h3 : .tam ∈ l) (h4 : .log ∈ l) :
    Frame l s (applyClear m t) ↔ Frame l s t := Frame.drop (by
  unfold applyClear
  simp [*])

@[simp ↓] theorem setLowcr_frame (b : Bool) (h0 : .sw ∈ l) :
    Frame l s (setLowcr b t) ↔ Frame l s t := Frame.drop (by
  unfold setLowcr
  simp [*])

@[simp ↓] theorem reportCredit_frame (h0 : .path ∈ l) (h1 : .eng ∈ l) (h2 : .sto ∈ l) (h3 : .sw ∈ l) (h4 : .tam ∈ l) :
    Frame l s (reportCredit t) ↔ Frame l s t := Frame.drop (by
  unfold reportCredit
  simp [*])

@[simp ↓] theorem reportLow_frame (h0 : .eng ∈ l) (h1 : .sw ∈ l) :
    Frame l s (reportLow t) ↔ Frame l s t := Frame.drop (by
  unfold reportLow
  simp [*])

@[simp ↓] theorem evalConditions_frame (h0 : .path ∈ l) (h1 : .eng ∈ l) (h2 : .sto ∈ l) (h3 : .sw ∈ l) (h4 : .tam ∈ l) :
    Frame l s (evalConditions t) ↔ Frame l s t := Frame.drop (by
  unfold evalConditions
  simp [*])

@[simp ↓] theorem reportRateUnset_frame (h0 : .path ∈ l) (h1 : .eng ∈ l) (h2 : .sto ∈ l) (h3 : .sw ∈ l) (h4 : .tam ∈ l) :
    Frame l s (reportRateUnset t) ↔ Frame l s t := Frame.drop (by
  unfold reportRateUnset
  simp [*])

@[simp ↓] theorem limitInForce_frame (h0 : .eng ∈ l) (h1 : .sw ∈ l) :
    Frame l s (limitInForce t) ↔ Frame l s t := Frame.drop (by
  unfold limitInForce
  split
  all_goals simp [*])

@[simp ↓] theorem discardBlock_frame (h0 : .eng ∈ l) (h1 : .sw ∈ l) :
    Frame l s (discardBlock t) ↔ Frame l s t := Frame.drop (by
  unfold discardBlock
  simp [*])

end Sys2Proof.Machine
end

