-- ==== Sys2Proof/Laws/CodeOpsFrame.lean ====
section
/-! SUPPORT. Frames of the Code Decoder's and the Energy Engine's shared operations. -/

namespace Sys2Proof.Machine

open Sys2Proof

variable {l : List Block} {s t : State}

@[simp ↓] theorem handOver_frame (c : Change) (h0 : .path ∈ l) (h1 : .sto ∈ l) :
    Frame l s (handOver c t) ↔ Frame l s t := Frame.drop (by
  unfold handOver
  simp [*])

@[simp ↓] theorem nextTurn_frame (h0 : .path ∈ l) (h1 : .sto ∈ l) (h2 : .dec ∈ l) :
    Frame l s (nextTurn t) ↔ Frame l s t := Frame.drop (by
  unfold nextTurn
  repeat' split
  all_goals simp [*])

@[simp ↓] theorem giveTurns_frame (h0 : .path ∈ l) (h1 : .sto ∈ l) (h2 : .dec ∈ l) :
    Frame l s (giveTurns t) ↔ Frame l s t := Frame.drop (by
  unfold giveTurns
  simp [*])

@[simp ↓] theorem endSubmission_frame (b : Bool) (h0 : .path ∈ l) (h1 : .sto ∈ l) (h2 : .dec ∈ l) :
    Frame l s (endSubmission b t) ↔ Frame l s t := Frame.drop (by
  unfold endSubmission
  dsimp only; split
  all_goals simp [*])

@[simp ↓] theorem codeDone_frame (m : BitVec 10) (h0 : .path ∈ l) (h1 : .sto ∈ l) (h2 : .dec ∈ l) (h3 : .log ∈ l) :
    Frame l s (codeDone m t) ↔ Frame l s t := Frame.drop (by
  unfold codeDone
  split
  all_goals simp [*])

@[simp ↓] theorem codeFailed_frame (h0 : .path ∈ l) (h1 : .sto ∈ l) (h2 : .dec ∈ l) :
    Frame l s (codeFailed t) ↔ Frame l s t := Frame.drop (by
  unfold codeFailed
  split
  all_goals simp [*])

@[simp ↓] theorem dropSubmissions_frame (h0 : .dec ∈ l) :
    Frame l s (dropSubmissions t) ↔ Frame l s t := Frame.drop (by
  unfold dropSubmissions
  simp [*])

@[simp ↓] theorem blockWork_frame (h0 : .path ∈ l) (h1 : .eng ∈ l) (h2 : .sto ∈ l) (h3 : .sw ∈ l) (h4 : .tam ∈ l) (h5 : .log ∈ l) :
    Frame l s (blockWork t) ↔ Frame l s t := Frame.drop (by
  unfold blockWork
  simp [*])

@[simp ↓] theorem spendThreshold_frame (h0 : .path ∈ l) (h1 : .eng ∈ l) (h2 : .sto ∈ l) :
    Frame l s (spendThreshold t) ↔ Frame l s t := Frame.drop (by
  unfold spendThreshold
  simp [*])

@[simp ↓] theorem emergencyRequest_frame (h0 : .path ∈ l) (h1 : .eng ∈ l) (h2 : .sto ∈ l) (h3 : .sw ∈ l) (h4 : .tam ∈ l) (h5 : .log ∈ l) :
    Frame l s (emergencyRequest t) ↔ Frame l s t := Frame.drop (by
  unfold emergencyRequest
  simp [*])

@[simp ↓] theorem applyChange_frame (c : Change) (h0 : .path ∈ l) (h1 : .eng ∈ l) (h2 : .sto ∈ l) (h3 : .sw ∈ l) (h4 : .tam ∈ l) (h5 : .log ∈ l) :
    Frame l s (applyChange c t) ↔ Frame l s t := Frame.drop (by
  unfold applyChange
  split
  all_goals simp [*])

@[simp ↓] theorem startUpConditions_frame (h0 : .path ∈ l) (h1 : .eng ∈ l) (h2 : .sto ∈ l) (h3 : .sw ∈ l) (h4 : .tam ∈ l) :
    Frame l s (startUpConditions t) ↔ Frame l s t := Frame.drop (by
  unfold startUpConditions
  simp [*])

end Sys2Proof.Machine
end

