-- ==== Sys2Proof/Laws/Command.lean ====
section
/-! SUPPORT. What a command does when nothing is owed between commands: `finish` is then the identity, and the command's outcome is its
own operation's; and what a STOP that is owed (R18) and a RESTART that waits (R180) do. -/

namespace Sys2Proof.Machine

open Sys2Proof

/-- With no request ended at the end of the generations there is nothing to conclude. -/
theorem concludeEnded_nil (n : Nat) (s : State) (h : s.sto.ended = []) : concludeEnded n s = s := by
  cases n <;> simp [concludeEnded, h]

/-- With nothing owed `finish` changes nothing. -/
theorem finish_id (s : State) (ended : s.sto.ended = []) (cut : s.path.cutAsked = false) (hold : s.sup.holdDue = false)
    (restart : s.sup.restartDue = false) : finish s = s := by
  simp [finish, concludeEnded_nil, ended, takeCut, cut, takeHold, hold, takeRestart, restart]

/-- The outcome of a command of a powered part whose operation leaves nothing owed. -/
theorem runCommand_eq {f : State → State} {s t : State} (powered : s.sup.powered = true) (run : f (clearLines s) = t)
    (ended : t.sto.ended = []) (cut : t.path.cutAsked = false) (hold : t.sup.holdDue = false)
    (restart : t.sup.restartDue = false) : runCommand f s = .next t := by
  simp [runCommand, powered, run, finish_id t ended cut hold restart]

/-- Without supply a command changes nothing. -/
theorem runCommand_unpowered {f : State → State} {s : State} (unpowered : s.sup.powered = false) : runCommand f s = .next s := by
  simp [runCommand, unpowered]

/-- In a quiet state no cut is asked for. -/
theorem State.Quiet.cutAsked {s : State} (h : s.Quiet) : s.path.cutAsked = false := by
  have hp := h.cutPending
  have hl := h.holdLimit
  simp only [Path.cutAsked]
  cases ho : s.path.owner <;> simp_all
  rcases hl with h | h <;> simp [h]

/-! ## A STOP that is owed (R18), and a RESTART that waits (R180) -/

variable (act : OwnAct) (s : State)

/-- With no STOP owed a job's transaction goes onto the memory segment, with the exact select. -/
theorem issue_free (h : s.path.stopOwed = false) : issue act s = emit [s.own act] s := by
  simp [issue, h, State.own, Path.select, exactSelect]

/-- While a STOP is owed it waits behind it. -/
theorem issue_owed (h : s.path.stopOwed = true) : issue act s = s.modPath fun p => { p with behind := [s.own act] } := by
  simp [issue, h, State.own, Path.select, exactSelect, State.modPath]

/-- Issuing the STOP that is owed puts `Path.owed` onto the segment. -/
theorem owedStop_eq : owedStop s = emit s.path.owed (s.modPath Path.stopped) := by
  cases s with
  | mk pins lines path =>
    cases h : path.stopOwed <;> simp [owedStop, h, Path.owed, Path.stopped, emit, State.modPath, State.modLines]

/-- While a STOP is owed the memory answers at no stage; otherwise it answers at the job's. -/
theorem onSegment_cases : s.onSegment = none ∨ (s.path.stopOwed = false ∧ s.onSegment = s.stage) := by
  cases h : s.path.stopOwed <;> simp [State.onSegment, h]

/-- A RESTART that is asked for waits just while a host byte is in progress. -/
theorem askRestart_cases : askRestart s = restart s ∨
    (s.pins.midByte = true ∧ askRestart s = s.modSup fun p => { p with restartDue := true }) := by
  cases h : s.pins.midByte <;> simp [askRestart, h]

/-- After a command no RESTART is left waiting between bytes. -/
theorem takeRestart_done (h : s.pins.midByte = false) : (takeRestart s).sup.restartDue = false := by
  cases hd : s.sup.restartDue <;> simp [takeRestart, h, hd, restart, coldState, Supply.cold]

end Sys2Proof.Machine
end

