-- ==== Sys2Proof/Laws/PathOpsFrame.lean ====
section
/-! SUPPORT. Frames of the Path Unit's shared operations. -/

namespace Sys2Proof.Machine

open Sys2Proof

variable {l : List Block} {s t : State}

@[simp ↓] theorem stopSegment_frame (h0 : .lines ∈ l) (h1 : .path ∈ l) :
    Frame l s (stopSegment t) ↔ Frame l s t := Frame.drop (by
  unfold stopSegment
  simp [*])

@[simp ↓] theorem stopAtData_frame (h0 : .lines ∈ l) (h1 : .path ∈ l) :
    Frame l s (stopAtData t) ↔ Frame l s t := Frame.drop (by
  unfold stopAtData
  simp [*])

@[simp ↓] theorem owedStop_frame (h0 : .lines ∈ l) (h1 : .path ∈ l) :
    Frame l s (owedStop t) ↔ Frame l s t := Frame.drop (by
  unfold owedStop
  simp [*])

@[simp ↓] theorem mirrorAtEnd_frame (h0 : .path ∈ l) :
    Frame l s (mirrorAtEnd t) ↔ Frame l s t := Frame.drop (by
  unfold mirrorAtEnd
  simp [*])

@[simp ↓] theorem dropSnapshots_frame (h0 : .win ∈ l) :
    Frame l s (dropSnapshots t) ↔ Frame l s t := Frame.drop (by
  unfold dropSnapshots
  simp [*])

@[simp ↓] theorem endTransaction_frame (b : Bool) (h0 : .path ∈ l) (h1 : .win ∈ l) (h2 : .sto ∈ l) (h3 : .dec ∈ l) :
    Frame l s (endTransaction b t) ↔ Frame l s t := Frame.drop (by
  unfold endTransaction
  simp [*])

@[simp ↓] theorem releaseHost_frame (p : UpPhase) (h0 : .path ∈ l) :
    Frame l s (releaseHost p t) ↔ Frame l s t := Frame.drop (by
  unfold releaseHost
  simp [*])

@[simp ↓] theorem endHost_frame (b : Bool) (p : UpPhase) (h0 : .lines ∈ l) (h1 : .path ∈ l) (h2 : .win ∈ l) (h3 : .sto ∈ l) (h4 : .dec ∈ l) :
    Frame l s (endHost b p t) ↔ Frame l s t := Frame.drop (by
  unfold endHost
  simp [*])

@[simp ↓] theorem cutRead_frame (h0 : .lines ∈ l) (h1 : .path ∈ l) :
    Frame l s (cutRead t) ↔ Frame l s t := Frame.drop (by
  unfold cutRead
  split
  all_goals simp [*])

@[simp ↓] theorem cut_frame (h0 : .lines ∈ l) (h1 : .path ∈ l) (h2 : .win ∈ l) (h3 : .sto ∈ l) (h4 : .dec ∈ l) :
    Frame l s (cut t) ↔ Frame l s t := Frame.drop (by
  unfold cut
  simp [*])

@[simp ↓] theorem takeCut_frame (h0 : .lines ∈ l) (h1 : .path ∈ l) (h2 : .win ∈ l) (h3 : .sto ∈ l) (h4 : .dec ∈ l) :
    Frame l s (takeCut t) ↔ Frame l s t := Frame.drop (by
  unfold takeCut
  simp [*])

@[simp ↓] theorem byteEnd_frame (h0 : .pins ∈ l) :
    Frame l s (byteEnd t) ↔ Frame l s t := Frame.drop (by
  unfold byteEnd
  simp [*])

@[simp ↓] theorem takeSegment_frame (h0 : .path ∈ l) :
    Frame l s (takeSegment t) ↔ Frame l s t := Frame.drop (by
  unfold takeSegment
  simp [*])

@[simp ↓] theorem openAddress_frame (a : BitVec 7) (h0 : .path ∈ l) :
    Frame l s (openAddress a t) ↔ Frame l s t := Frame.drop (by
  unfold openAddress
  simp [*])

@[simp ↓] theorem refuseAddress_frame (m : Bool) (h0 : .lines ∈ l) (h1 : .path ∈ l) :
    Frame l s (refuseAddress m t) ↔ Frame l s t := Frame.drop (by
  unfold refuseAddress
  simp [*])

@[simp ↓] theorem carryAddress_frame (m : Bool) (q : BitVec 7) (d : Dir) (a : Bool) (h0 : .lines ∈ l) (h1 : .path ∈ l) :
    Frame l s (carryAddress m q d a t) ↔ Frame l s t := Frame.drop (by
  unfold carryAddress
  simp [*])

@[simp ↓] theorem addressByteOp_frame (q : BitVec 7) (d : Dir) (a : Bool) (h0 : .lines ∈ l) (h1 : .path ∈ l) (h2 : .win ∈ l) (h3 : .sto ∈ l) (h4 : .dec ∈ l) :
    Frame l s (addressByteOp q d a t) ↔ Frame l s t := Frame.drop (by
  unfold addressByteOp
  simp [*])

@[simp ↓] theorem releasedForeign_frame (h0 : .lines ∈ l) :
    Frame l s (releasedForeign t) ↔ Frame l s t := Frame.drop (by
  unfold releasedForeign
  simp [*])

@[simp ↓] theorem foreignByteOp_frame (b : Byte) (a : Bool) (h0 : .lines ∈ l) (h1 : .path ∈ l) :
    Frame l s (foreignByteOp b a t) ↔ Frame l s t := Frame.drop (by
  unfold foreignByteOp
  split
  all_goals simp [*])

@[simp ↓] theorem setWordAddress_frame (a : Addr) (h0 : .path ∈ l) :
    Frame l s (setWordAddress a t) ↔ Frame l s t := Frame.drop (by
  unfold setWordAddress
  simp [*])

@[simp ↓] theorem wordAddressByteOp_frame (b : Byte) (a : Bool) (h0 : .lines ∈ l) (h1 : .path ∈ l) :
    Frame l s (wordAddressByteOp b a t) ↔ Frame l s t := Frame.drop (by
  unfold wordAddressByteOp
  split
  all_goals simp [*])

@[simp ↓] theorem openDataByte_frame (b : Byte) (a : Bool) (h0 : .lines ∈ l) (h1 : .path ∈ l) :
    Frame l s (openDataByte b a t) ↔ Frame l s t := Frame.drop (by
  unfold openDataByte
  simp [*])

@[simp ↓] theorem inboxDataByte_frame (f : Bool) (b : Byte) (h0 : .lines ∈ l) (h1 : .path ∈ l) (h2 : .dec ∈ l) :
    Frame l s (inboxDataByte f b t) ↔ Frame l s t := Frame.drop (by
  unfold inboxDataByte inboxFirst inboxLater
  dsimp only
  repeat' split
  all_goals simp [*])

@[simp ↓] theorem guardedDataByte_frame (f : Bool) (h0 : .lines ∈ l) (h1 : .path ∈ l) (h2 : .sto ∈ l) (h3 : .sw ∈ l) (h4 : .tam ∈ l) (h5 : .log ∈ l) :
    Frame l s (guardedDataByte f t) ↔ Frame l s t := Frame.drop (by
  unfold guardedDataByte
  simp [*])

@[simp ↓] theorem windowDataByte_frame (f : Bool) (b : Byte) (a : Bool) (h0 : .lines ∈ l) (h1 : .path ∈ l) (h2 : .sto ∈ l) (h3 : .dec ∈ l) (h4 : .sw ∈ l) (h5 : .tam ∈ l) (h6 : .log ∈ l) :
    Frame l s (windowDataByte f b a t) ↔ Frame l s t := Frame.drop (by
  unfold windowDataByte
  split
  all_goals simp [*])

@[simp ↓] theorem hostWriteDataByteOp_frame (b : Byte) (a : Bool) (h0 : .lines ∈ l) (h1 : .path ∈ l) (h2 : .sto ∈ l) (h3 : .dec ∈ l) (h4 : .sw ∈ l) (h5 : .tam ∈ l) (h6 : .log ∈ l) :
    Frame l s (hostWriteDataByteOp b a t) ↔ Frame l s t := Frame.drop (by
  unfold hostWriteDataByteOp
  split
  all_goals simp [*])

@[simp ↓] theorem giveLive_frame (n : Nat) (h0 : .lines ∈ l) (h1 : .win ∈ l) :
    Frame l s (giveLive n t) ↔ Frame l s t := Frame.drop (by
  unfold giveLive
  simp [*])

@[simp ↓] theorem giveOutcome_frame (n : Nat) (h0 : .lines ∈ l) (h1 : .win ∈ l) :
    Frame l s (giveOutcome n t) ↔ Frame l s t := Frame.drop (by
  unfold giveOutcome
  simp [*])

@[simp ↓] theorem giveRead_frame (a : Addr) (b : Byte) (h0 : .lines ∈ l) (h1 : .win ∈ l) :
    Frame l s (giveRead a b t) ↔ Frame l s t := Frame.drop (by
  unfold giveRead
  split
  all_goals simp [*])

@[simp ↓] theorem readDataByte_frame (b : Byte) (a : Bool) (h0 : .lines ∈ l) (h1 : .path ∈ l) (h2 : .win ∈ l) :
    Frame l s (readDataByte b a t) ↔ Frame l s t := Frame.drop (by
  unfold readDataByte
  dsimp only; split
  all_goals simp [*])

@[simp ↓] theorem hostReadDataByteOp_frame (b : Byte) (a : Bool) (h0 : .lines ∈ l) (h1 : .path ∈ l) (h2 : .win ∈ l) :
    Frame l s (hostReadDataByteOp b a t) ↔ Frame l s t := Frame.drop (by
  unfold hostReadDataByteOp
  split
  all_goals simp [*])

@[simp ↓] theorem hostStopOp_frame (h0 : .lines ∈ l) (h1 : .path ∈ l) (h2 : .win ∈ l) (h3 : .sto ∈ l) (h4 : .dec ∈ l) :
    Frame l s (hostStopOp t) ↔ Frame l s t := Frame.drop (by
  unfold hostStopOp
  simp [*])

@[simp ↓] theorem startAfterBusError_frame (h0 : .path ∈ l) :
    Frame l s (startAfterBusError t) ↔ Frame l s t := Frame.drop (by
  unfold startAfterBusError
  simp [*])

@[simp ↓] theorem busErrorOp_frame (e : MidByteEdge) (h0 : .lines ∈ l) (h1 : .path ∈ l) (h2 : .win ∈ l) (h3 : .sto ∈ l) (h4 : .dec ∈ l) :
    Frame l s (busErrorOp e t) ↔ Frame l s t := Frame.drop (by
  unfold busErrorOp
  simp [*])

@[simp ↓] theorem holdLimitOp_frame (h0 : .path ∈ l) :
    Frame l s (holdLimitOp t) ↔ Frame l s t := Frame.drop (by
  unfold holdLimitOp
  simp [*])

@[simp ↓] theorem cutByteOp_frame (d : Dir) (h0 : .lines ∈ l) :
    Frame l s (cutByteOp d t) ↔ Frame l s t := Frame.drop (by
  unfold cutByteOp
  simp [*])

@[simp ↓] theorem hostClockFault_frame (h0 : .pins ∈ l) (h1 : .path ∈ l) (h2 : .win ∈ l) (h3 : .sto ∈ l) (h4 : .dec ∈ l) :
    Frame l s (hostClockFault t) ↔ Frame l s t := Frame.drop (by
  unfold hostClockFault
  simp [*])

@[simp ↓] theorem jobStage_frame (g : JobStage) (x : OwnAct) (h0 : .lines ∈ l) (h1 : .path ∈ l) :
    Frame l s (jobStage g x t) ↔ Frame l s t := Frame.drop (by
  unfold jobStage
  simp [*])

@[simp ↓] theorem setMirror_frame (m : Option Addr) (h0 : .path ∈ l) :
    Frame l s (setMirror m t) ↔ Frame l s t := Frame.drop (by
  unfold setMirror
  simp [*])

@[simp ↓] theorem beginRestore_frame (h0 : .lines ∈ l) (h1 : .path ∈ l) :
    Frame l s (beginRestore t) ↔ Frame l s t := Frame.drop (by
  unfold beginRestore
  simp [*])

end Sys2Proof.Machine
end

