-- ==== Sys2Proof/Laws/StoreOpsFrame.lean ====
section
/-! SUPPORT. Frames of the Account Store's and the Log Writer's shared operations. -/

namespace Sys2Proof.Machine

open Sys2Proof

variable {l : List Block} {s t : State}

@[simp ↓] theorem takeSnapshot_frame (h0 : .eng ∈ l) (h1 : .sto ∈ l) :
    Frame l s (takeSnapshot t) ↔ Frame l s t := Frame.drop (by
  unfold takeSnapshot
  simp [*])

@[simp ↓] theorem furtherCommit_frame (h0 : .path ∈ l) (h1 : .sto ∈ l) :
    Frame l s (furtherCommit t) ↔ Frame l s t := Frame.drop (by
  unfold furtherCommit
  simp [*])

@[simp ↓] theorem setAccountState_frame (v : AccountState) (h0 : .path ∈ l) (h1 : .sto ∈ l) (h2 : .sw ∈ l) (h3 : .tam ∈ l) :
    Frame l s (setAccountState v t) ↔ Frame l s t := Frame.drop (by
  unfold setAccountState
  simp [*])

@[simp ↓] theorem applyCarried_frame (h0 : .path ∈ l) (h1 : .eng ∈ l) (h2 : .sto ∈ l) (h3 : .dec ∈ l) (h4 : .sw ∈ l) (h5 : .tam ∈ l) (h6 : .log ∈ l) :
    Frame l s (applyCarried t) ↔ Frame l s t := Frame.drop (by
  unfold applyCarried
  split <;> try split
  all_goals simp [*])

@[simp ↓] theorem dropSnapshot_frame (h0 : .sto ∈ l) :
    Frame l s (dropSnapshot t) ↔ Frame l s t := Frame.drop (by
  unfold dropSnapshot
  simp [*])

@[simp ↓] theorem commitSuccess_frame (h0 : .path ∈ l) (h1 : .eng ∈ l) (h2 : .sto ∈ l) (h3 : .dec ∈ l) (h4 : .sw ∈ l) (h5 : .tam ∈ l) (h6 : .log ∈ l) :
    Frame l s (commitSuccess t) ↔ Frame l s t := Frame.drop (by
  unfold commitSuccess
  simp [*])

@[simp ↓] theorem commitFail_frame (a : Trigger) (h0 : .path ∈ l) (h1 : .sto ∈ l) (h2 : .dec ∈ l) (h3 : .sw ∈ l) (h4 : .tam ∈ l) (h5 : .log ∈ l) :
    Frame l s (commitFail a t) ↔ Frame l s t := Frame.drop (by
  unfold commitFail
  simp [*])

@[simp ↓] theorem endWaiting_frame (h0 : .path ∈ l) (h1 : .sto ∈ l) :
    Frame l s (endWaiting t) ↔ Frame l s t := Frame.drop (by
  unfold endWaiting
  split
  all_goals simp [*])

@[simp ↓] theorem commitEnded_frame (h0 : .path ∈ l) (h1 : .sto ∈ l) :
    Frame l s (commitEnded t) ↔ Frame l s t := Frame.drop (by
  unfold commitEnded
  simp [*])

@[simp ↓] theorem interruptCommit_frame (h0 : .path ∈ l) (h1 : .sto ∈ l) :
    Frame l s (interruptCommit t) ↔ Frame l s t := Frame.drop (by
  unfold interruptCommit
  dsimp only; split
  all_goals simp [*])

@[simp ↓] theorem endedRequest_frame (a : Trigger) (h0 : .path ∈ l) (h1 : .eng ∈ l) (h2 : .sto ∈ l) (h3 : .dec ∈ l) (h4 : .sw ∈ l) (h5 : .tam ∈ l) (h6 : .log ∈ l) (h7 : .sup ∈ l) :
    Frame l s (endedRequest a t) ↔ Frame l s t := Frame.drop (by
  unfold endedRequest
  simp [*])

@[simp ↓] theorem concludeEnded_frame (n : Nat) (h0 : .path ∈ l) (h1 : .eng ∈ l) (h2 : .sto ∈ l) (h3 : .dec ∈ l) (h4 : .sw ∈ l) (h5 : .tam ∈ l) (h6 : .log ∈ l) (h7 : .sup ∈ l) :
    Frame l s (concludeEnded n t) ↔ Frame l s t := Frame.drop (by
  induction n generalizing t with
  | zero => exact Frame.refl l t
  | succ n ih =>
    unfold concludeEnded
    split
    · exact Frame.refl l t
    · exact Frame.trans (by simp [*]) ih)

@[simp ↓] theorem holdExitCompare_frame (r : Option (List Byte)) (h0 : .path ∈ l) (h1 : .sto ∈ l) (h2 : .sw ∈ l) (h3 : .tam ∈ l) (h4 : .log ∈ l) :
    Frame l s (holdExitCompare r t) ↔ Frame l s t := Frame.drop (by
  unfold holdExitCompare
  simp [*])

@[simp ↓] theorem askAppend_frame (h0 : .path ∈ l) (h1 : .log ∈ l) :
    Frame l s (askAppend t) ↔ Frame l s t := Frame.drop (by
  unfold askAppend
  simp [*])

@[simp ↓] theorem noteLost_frame (h0 : .log ∈ l) :
    Frame l s (noteLost t) ↔ Frame l s t := Frame.drop (by
  unfold noteLost
  simp [*])

@[simp ↓] theorem appendSuccess_frame (h0 : .path ∈ l) (h1 : .log ∈ l) :
    Frame l s (appendSuccess t) ↔ Frame l s t := Frame.drop (by
  unfold appendSuccess
  simp [*])

@[simp ↓] theorem endDrain_frame (h0 : .path ∈ l) (h1 : .sup ∈ l) :
    Frame l s (endDrain t) ↔ Frame l s t := Frame.drop (by
  unfold endDrain
  simp [*])

@[simp ↓] theorem appendDone_frame (h0 : .path ∈ l) (h1 : .log ∈ l) (h2 : .sup ∈ l) :
    Frame l s (appendDone t) ↔ Frame l s t := Frame.drop (by
  unfold appendDone
  simp [*])

@[simp ↓] theorem appendFail_frame (h0 : .path ∈ l) (h1 : .log ∈ l) (h2 : .sup ∈ l) :
    Frame l s (appendFail t) ↔ Frame l s t := Frame.drop (by
  unfold appendFail
  simp [*])

@[simp ↓] theorem retryAppend_frame (h0 : .path ∈ l) (h1 : .log ∈ l) :
    Frame l s (retryAppend t) ↔ Frame l s t := Frame.drop (by
  unfold retryAppend
  simp [*])

@[simp ↓] theorem endRecovery_frame (n : Nat) (h0 : .path ∈ l) (h1 : .log ∈ l) :
    Frame l s (endRecovery n t) ↔ Frame l s t := Frame.drop (by
  unfold endRecovery
  simp [*])

end Sys2Proof.Machine
end

