-- ==== Sys2Proof/Laws/SwitchOpsFrame.lean ====
section
/-! SUPPORT. Frames of the Sampling Unit's and the Switch Controller's shared operations. -/

namespace Sys2Proof.Machine

open Sys2Proof

variable {l : List Block} {s t : State}

@[simp ↓] theorem frameWork_frame (v iL iN aux : BitVec 16) (h0 : .smp ∈ l) (h1 : .eng ∈ l) :
    Frame l s (frameWork v iL iN aux t) ↔ Frame l s t := Frame.drop (by
  unfold frameWork
  simp [*])

@[simp ↓] theorem startCapture_frame (h0 : .smp ∈ l) :
    Frame l s (startCapture t) ↔ Frame l s t := Frame.drop (by
  unfold startCapture
  simp [*])

@[simp ↓] theorem endCapture_frame (h0 : .smp ∈ l) :
    Frame l s (endCapture t) ↔ Frame l s t := Frame.drop (by
  unfold endCapture
  simp [*])

@[simp ↓] theorem loadvReport_frame (b : Bool) (h0 : .path ∈ l) (h1 : .sto ∈ l) (h2 : .sw ∈ l) (h3 : .tam ∈ l) (h4 : .log ∈ l) :
    Frame l s (loadvReport b t) ↔ Frame l s t := Frame.drop (by
  unfold loadvReport
  simp [*])

@[simp ↓] theorem monitorReport_frame (k : Monitor) (b : Bool) (h0 : .path ∈ l) (h1 : .sto ∈ l) (h2 : .sw ∈ l) (h3 : .tam ∈ l) (h4 : .log ∈ l) :
    Frame l s (monitorReport k b t) ↔ Frame l s t := Frame.drop (by
  unfold monitorReport
  cases k
  all_goals simp [*])

@[simp ↓] theorem monitorChange_frame (k : Monitor) (h0 : .path ∈ l) (h1 : .smp ∈ l) (h2 : .sto ∈ l) (h3 : .sw ∈ l) (h4 : .tam ∈ l) (h5 : .log ∈ l) :
    Frame l s (monitorChange k t) ↔ Frame l s t := Frame.drop (by
  unfold monitorChange
  simp [*])

@[simp ↓] theorem blockEnd_frame (h0 : .path ∈ l) (h1 : .smp ∈ l) (h2 : .eng ∈ l) (h3 : .sto ∈ l) (h4 : .sw ∈ l) (h5 : .tam ∈ l) (h6 : .log ∈ l) :
    Frame l s (blockEnd t) ↔ Frame l s t := Frame.drop (by
  unfold blockEnd
  simp [*])

@[simp ↓] theorem dropBlock_frame (h0 : .smp ∈ l) (h1 : .eng ∈ l) (h2 : .sw ∈ l) :
    Frame l s (dropBlock t) ↔ Frame l s t := Frame.drop (by
  unfold dropBlock
  simp [*])

@[simp ↓] theorem orderCalibration_frame (h0 : .smp ∈ l) :
    Frame l s (orderCalibration t) ↔ Frame l s t := Frame.drop (by
  unfold orderCalibration
  simp [*])

@[simp ↓] theorem opStep_frame (g : OpStep) (h0 : .sw ∈ l) :
    Frame l s (opStep g t) ↔ Frame l s t := Frame.drop (by
  unfold opStep
  simp [*])

@[simp ↓] theorem beginDelay_frame (h0 : .sw ∈ l) :
    Frame l s (beginDelay t) ↔ Frame l s t := Frame.drop (by
  unfold beginDelay
  simp [*])

@[simp ↓] theorem crossingEvent_frame (h0 : .sw ∈ l) :
    Frame l s (crossingEvent t) ↔ Frame l s t := Frame.drop (by
  unfold crossingEvent
  repeat' split
  all_goals simp [*])

@[simp ↓] theorem crossingTimeout_frame (h0 : .sw ∈ l) :
    Frame l s (crossingTimeout t) ↔ Frame l s t := Frame.drop (by
  unfold crossingTimeout
  repeat' split
  all_goals simp [*])

@[simp ↓] theorem convertClosing_frame (h0 : .sw ∈ l) :
    Frame l s (convertClosing t) ↔ Frame l s t := Frame.drop (by
  unfold convertClosing
  simp [*])

@[simp ↓] theorem beginPulse_frame (h0 : .sw ∈ l) :
    Frame l s (beginPulse t) ↔ Frame l s t := Frame.drop (by
  unfold beginPulse
  simp [*])

@[simp ↓] theorem delayEnd_frame (h0 : .sw ∈ l) :
    Frame l s (delayEnd t) ↔ Frame l s t := Frame.drop (by
  unfold delayEnd
  repeat' split
  all_goals simp [*])

@[simp ↓] theorem pulseEnd_frame (h0 : .sw ∈ l) :
    Frame l s (pulseEnd t) ↔ Frame l s t := Frame.drop (by
  unfold pulseEnd
  repeat' split
  all_goals simp [*])

@[simp ↓] theorem requestAttemptCapture_frame (h0 : .smp ∈ l) (h1 : .sw ∈ l) :
    Frame l s (requestAttemptCapture t) ↔ Frame l s t := Frame.drop (by
  unfold requestAttemptCapture
  simp [*])

@[simp ↓] theorem requestCheck_frame (h0 : .smp ∈ l) (h1 : .sw ∈ l) :
    Frame l s (requestCheck t) ↔ Frame l s t := Frame.drop (by
  unfold requestCheck
  simp [*])

@[simp ↓] theorem settleTimeEnd_frame (h0 : .smp ∈ l) (h1 : .sw ∈ l) :
    Frame l s (settleTimeEnd t) ↔ Frame l s t := Frame.drop (by
  unfold settleTimeEnd
  repeat' split
  all_goals simp [*])

@[simp ↓] theorem retryCapture_frame (h0 : .smp ∈ l) (h1 : .sw ∈ l) :
    Frame l s (retryCapture t) ↔ Frame l s t := Frame.drop (by
  unfold retryCapture
  simp [*])

@[simp ↓] theorem captureAbandoned_frame (h0 : .smp ∈ l) (h1 : .sw ∈ l) :
    Frame l s (captureAbandoned t) ↔ Frame l s t := Frame.drop (by
  unfold captureAbandoned
  simp [*])

@[simp ↓] theorem settleEvaluation_frame (h0 : .sw ∈ l) (h1 : .tam ∈ l) :
    Frame l s (settleEvaluation t) ↔ Frame l s t := Frame.drop (by
  unfold settleEvaluation
  repeat' split
  all_goals simp [*])

@[simp ↓] theorem settleEvent_frame (a b c : Bool) (r : Option Reason) (h0 : .path ∈ l) (h1 : .log ∈ l) (h2 : .free ∈ l) :
    Frame l s (settleEvent a b c r t) ↔ Frame l s t := Frame.drop (by
  unfold settleEvent settleReason
  dsimp only
  repeat' split
  all_goals simp [*])

@[simp ↓] theorem beginOpenPeriod_frame (b : Bool) (h0 : .sw ∈ l) :
    Frame l s (beginOpenPeriod b t) ↔ Frame l s t := Frame.drop (by
  unfold beginOpenPeriod
  simp [*])

@[simp ↓] theorem settlePeriod_frame (a b : Bool) (h0 : .sw ∈ l) :
    Frame l s (settlePeriod a b t) ↔ Frame l s t := Frame.drop (by
  unfold settlePeriod
  simp [*])

@[simp ↓] theorem failureFinding_frame (a b c : Bool) (h0 : .path ∈ l) (h1 : .sto ∈ l) (h2 : .sw ∈ l) (h3 : .tam ∈ l) (h4 : .log ∈ l) :
    Frame l s (failureFinding a b c t) ↔ Frame l s t := Frame.drop (by
  unfold failureFinding
  simp [*])

@[simp ↓] theorem settle_frame (a b c d e : Bool) (r : Option Reason) (h0 : .path ∈ l) (h1 : .sto ∈ l) (h2 : .sw ∈ l) (h3 : .tam ∈ l) (h4 : .log ∈ l) (h5 : .free ∈ l) :
    Frame l s (settle a b c d e r t) ↔ Frame l s t := Frame.drop (by
  unfold settle
  simp [*])

@[simp ↓] theorem judgeAttempt_frame (o : Operation) (m n : Nat) (h0 : .path ∈ l) (h1 : .sto ∈ l) (h2 : .sw ∈ l) (h3 : .tam ∈ l) (h4 : .log ∈ l) (h5 : .free ∈ l) :
    Frame l s (judgeAttempt o m n t) ↔ Frame l s t := Frame.drop (by
  unfold judgeAttempt
  simp [*])

@[simp ↓] theorem checkConfirmed_frame (b : Bool) (h0 : .path ∈ l) (h1 : .sto ∈ l) (h2 : .sw ∈ l) (h3 : .tam ∈ l) (h4 : .log ∈ l) (h5 : .free ∈ l) :
    Frame l s (checkConfirmed b t) ↔ Frame l s t := Frame.drop (by
  unfold checkConfirmed
  split
  all_goals simp [*])

@[simp ↓] theorem judgeCheck_frame (m n : Nat) (h0 : .path ∈ l) (h1 : .sto ∈ l) (h2 : .sw ∈ l) (h3 : .tam ∈ l) (h4 : .log ∈ l) (h5 : .free ∈ l) :
    Frame l s (judgeCheck m n t) ↔ Frame l s t := Frame.drop (by
  unfold judgeCheck
  simp [*])

@[simp ↓] theorem endColdStart_frame (h0 : .path ∈ l) (h1 : .sw ∈ l) (h2 : .sup ∈ l) :
    Frame l s (endColdStart t) ↔ Frame l s t := Frame.drop (by
  unfold endColdStart
  simp [*])

@[simp ↓] theorem captureComplete_frame (h0 : .path ∈ l) (h1 : .smp ∈ l) (h2 : .sto ∈ l) (h3 : .sw ∈ l) (h4 : .tam ∈ l) (h5 : .log ∈ l) (h6 : .sup ∈ l) (h7 : .free ∈ l) :
    Frame l s (captureComplete t) ↔ Frame l s t := Frame.drop (by
  unfold captureComplete
  dsimp only; split <;> try split
  all_goals simp [*])

@[simp ↓] theorem lossWithFrames_frame (h0 : .path ∈ l) (h1 : .smp ∈ l) (h2 : .eng ∈ l) (h3 : .sw ∈ l) (h4 : .log ∈ l) :
    Frame l s (lossWithFrames t) ↔ Frame l s t := Frame.drop (by
  unfold lossWithFrames
  simp [*])

@[simp ↓] theorem limitDelayEnd_frame (h0 : .path ∈ l) (h1 : .sto ∈ l) (h2 : .sw ∈ l) (h3 : .tam ∈ l) :
    Frame l s (limitDelayEnd t) ↔ Frame l s t := Frame.drop (by
  unfold limitDelayEnd
  simp [*])

@[simp ↓] theorem cleanTimeEnd_frame (h0 : .sw ∈ l) :
    Frame l s (cleanTimeEnd t) ↔ Frame l s t := Frame.drop (by
  unfold cleanTimeEnd
  simp [*])

@[simp ↓] theorem openRelayRun_frame (h0 : .path ∈ l) (h1 : .sto ∈ l) (h2 : .sw ∈ l) (h3 : .tam ∈ l) (h4 : .log ∈ l) :
    Frame l s (openRelayRun t) ↔ Frame l s t := Frame.drop (by
  unfold openRelayRun
  simp [*])

@[simp ↓] theorem imbalanceChange_frame (h0 : .path ∈ l) (h1 : .sto ∈ l) (h2 : .sw ∈ l) (h3 : .tam ∈ l) (h4 : .log ∈ l) :
    Frame l s (imbalanceChange t) ↔ Frame l s t := Frame.drop (by
  unfold imbalanceChange
  simp [*])

@[simp ↓] theorem reverseChange_frame (h0 : .path ∈ l) (h1 : .sto ∈ l) (h2 : .sw ∈ l) (h3 : .tam ∈ l) (h4 : .log ∈ l) :
    Frame l s (reverseChange t) ↔ Frame l s t := Frame.drop (by
  unfold reverseChange
  simp [*])

@[simp ↓] theorem takeDue_frame (h0 : .path ∈ l) (h1 : .smp ∈ l) (h2 : .eng ∈ l) (h3 : .sto ∈ l) (h4 : .sw ∈ l) (h5 : .tam ∈ l) (h6 : .log ∈ l) (h7 : .sup ∈ l) (h8 : .free ∈ l) :
    Frame l s (takeDue t) ↔ Frame l s t := Frame.drop (by
  unfold takeDue
  simp [*])

@[simp ↓] theorem press_frame (h0 : .path ∈ l) (h1 : .eng ∈ l) (h2 : .sto ∈ l) (h3 : .sw ∈ l) (h4 : .tam ∈ l) (h5 : .log ∈ l) :
    Frame l s (press t) ↔ Frame l s t := Frame.drop (by
  unfold press
  simp [*])

@[simp ↓] theorem switchTakeRecord_frame (r : Record) (h0 : .path ∈ l) (h1 : .sto ∈ l) (h2 : .sw ∈ l) (h3 : .tam ∈ l) :
    Frame l s (switchTakeRecord r t) ↔ Frame l s t := Frame.drop (by
  unfold switchTakeRecord
  have fold : ∀ (rs : List Report) (u : State), Frame l u (rs.foldl (fun s x => takeReport x s) u) := by
    intro rs
    induction rs with
    | nil => simp
    | cons r rs ih => intro u; exact Frame.trans (by simp [*]) (ih _)
  simp only [takeReport_frame, *]
  exact Frame.trans (by simp [*]) (fold _ _))

@[simp ↓] theorem takeFrame_frame (v iL iN aux : BitVec 16) (h0 : .path ∈ l) (h1 : .smp ∈ l) (h2 : .eng ∈ l) (h3 : .sto ∈ l) (h4 : .sw ∈ l) (h5 : .tam ∈ l) (h6 : .log ∈ l) (h7 : .sup ∈ l) (h8 : .free ∈ l) :
    Frame l s (takeFrame v iL iN aux t) ↔ Frame l s t := Frame.drop (by
  unfold takeFrame
  simp [*])

@[simp ↓] theorem zcSettle_frame (b : Bool) (h0 : .smp ∈ l) :
    Frame l s (zcSettle b t) ↔ Frame l s t := Frame.drop (by
  unfold zcSettle
  repeat' split
  all_goals simp [*])

@[simp ↓] theorem risingCrossing_frame (h0 : .smp ∈ l) (h1 : .sw ∈ l) :
    Frame l s (risingCrossing t) ↔ Frame l s t := Frame.drop (by
  unfold risingCrossing
  simp [*])

@[simp ↓] theorem buttonSettle_frame (b : Bool) (h0 : .path ∈ l) (h1 : .eng ∈ l) (h2 : .sto ∈ l) (h3 : .sw ∈ l) (h4 : .tam ∈ l) (h5 : .log ∈ l) :
    Frame l s (buttonSettle b t) ↔ Frame l s t := Frame.drop (by
  unfold buttonSettle
  simp [*])

@[simp ↓] theorem inputSettle_frame (i : SwitchInput) (b : Bool) (h0 : .path ∈ l) (h1 : .sto ∈ l) (h2 : .sw ∈ l) (h3 : .tam ∈ l) (h4 : .log ∈ l) :
    Frame l s (inputSettle i b t) ↔ Frame l s t := Frame.drop (by
  unfold inputSettle
  simp [*])

end Sys2Proof.Machine
end

