-- ==== Sys2Proof/Laws/SupplyOpsFrame.lean ====
section
/-! SUPPORT. Frames of the Supply Monitor's shared operations. -/

namespace Sys2Proof.Machine

open Sys2Proof

variable {l : List Block} {s t : State}

@[simp ↓] theorem applyFindings_frame (f : Findings) (h0 : .path ∈ l) (h1 : .sto ∈ l) (h2 : .sw ∈ l) (h3 : .tam ∈ l) (h4 : .log ∈ l) :
    Frame l s (applyFindings f t) ↔ Frame l s t := Frame.drop (by
  unfold applyFindings
  have fold : ∀ (ks : List TamperKind) (u : State),
      Frame l u (ks.foldl (fun s k => if f.has k then latchFinding false k s else s) u) := by
    intro ks
    induction ks with
    | nil => simp
    | cons k ks ih => intro u; exact Frame.trans (by simp [*]) (ih _)
  exact fold _ _)

@[simp ↓] theorem loadLatches_frame (m : Latches) (h0 : .path ∈ l) (h1 : .sto ∈ l) (h2 : .sw ∈ l) (h3 : .tam ∈ l) (h4 : .log ∈ l) :
    Frame l s (loadLatches m t) ↔ Frame l s t := Frame.drop (by
  unfold loadLatches
  simp [*])

@[simp ↓] theorem invalidPage_frame (b : Bool) (h0 : .path ∈ l) (h1 : .sto ∈ l) (h2 : .sw ∈ l) (h3 : .tam ∈ l) (h4 : .log ∈ l) :
    Frame l s (invalidPage b t) ↔ Frame l s t := Frame.drop (by
  unfold invalidPage
  simp [*])

@[simp ↓] theorem decidePage0_frame (r : Option (List Byte)) (h0 : .path ∈ l) (h1 : .win ∈ l) (h2 : .eng ∈ l) (h3 : .sto ∈ l) (h4 : .sw ∈ l) (h5 : .tam ∈ l) (h6 : .log ∈ l) :
    Frame l s (decidePage0 r t) ↔ Frame l s t := Frame.drop (by
  unfold decidePage0
  split
  all_goals simp [*])

@[simp ↓] theorem decidePage1_frame (r : Option (List Byte)) (h0 : .path ∈ l) (h1 : .win ∈ l) (h2 : .sto ∈ l) (h3 : .sw ∈ l) (h4 : .tam ∈ l) (h5 : .log ∈ l) :
    Frame l s (decidePage1 r t) ↔ Frame l s t := Frame.drop (by
  unfold decidePage1
  split
  all_goals simp [*])

@[simp ↓] theorem calibrateAndRestore_frame (h0 : .lines ∈ l) (h1 : .path ∈ l) (h2 : .smp ∈ l) (h3 : .sup ∈ l) :
    Frame l s (calibrateAndRestore t) ↔ Frame l s t := Frame.drop (by
  unfold calibrateAndRestore
  simp [*])

@[simp ↓] theorem coldPowerUp_frame (h0 : .path ∈ l) (h1 : .smp ∈ l) (h2 : .sw ∈ l) (h3 : .log ∈ l) (h4 : .sup ∈ l) :
    Frame l s (coldPowerUp t) ↔ Frame l s t := Frame.drop (by
  unfold coldPowerUp
  simp [*])

@[simp ↓] theorem handOut_frame (r : Record) (h0 : .path ∈ l) (h1 : .eng ∈ l) (h2 : .sto ∈ l) (h3 : .sw ∈ l) (h4 : .tam ∈ l) (h5 : .log ∈ l) :
    Frame l s (handOut r t) ↔ Frame l s t := Frame.drop (by
  unfold handOut
  simp [*])

@[simp ↓] theorem loadAccount_frame (c : Option (Slot × List Byte × Record)) (h0 : .path ∈ l) (h1 : .eng ∈ l) (h2 : .sto ∈ l) (h3 : .sw ∈ l) (h4 : .tam ∈ l) (h5 : .log ∈ l) :
    Frame l s (loadAccount c t) ↔ Frame l s t := Frame.drop (by
  unfold loadAccount
  dsimp only; split
  all_goals simp [*])

@[simp ↓] theorem endPage_frame (r : Result) (h0 : .path ∈ l) (h1 : .port ∈ l) :
    Frame l s (endPage r t) ↔ Frame l s t := Frame.drop (by
  unfold endPage
  simp [*])

@[simp ↓] theorem abandonJob_frame (r : JobRun) (h0 : .path ∈ l) (h1 : .sto ∈ l) (h2 : .log ∈ l) :
    Frame l s (abandonJob r t) ↔ Frame l s t := Frame.drop (by
  unfold abandonJob
  split
  all_goals simp [*])

@[simp ↓] theorem abandonRun_frame (h0 : .lines ∈ l) (h1 : .path ∈ l) (h2 : .sto ∈ l) (h3 : .log ∈ l) :
    Frame l s (abandonRun t) ↔ Frame l s t := Frame.drop (by
  unfold abandonRun
  split
  all_goals simp [*])

@[simp ↓] theorem holdPath_frame (h0 : .lines ∈ l) (h1 : .path ∈ l) (h2 : .win ∈ l) (h3 : .sto ∈ l) (h4 : .dec ∈ l) (h5 : .log ∈ l) (h6 : .port ∈ l) :
    Frame l s (holdPath t) ↔ Frame l s t := Frame.drop (by
  unfold holdPath
  simp [*])

@[simp ↓] theorem holdSampling_frame (h0 : .smp ∈ l) (h1 : .eng ∈ l) (h2 : .sw ∈ l) :
    Frame l s (holdSampling t) ↔ Frame l s t := Frame.drop (by
  unfold holdSampling
  simp [*])

@[simp ↓] theorem holdSwitch_frame (h0 : .sw ∈ l) :
    Frame l s (holdSwitch t) ↔ Frame l s t := Frame.drop (by
  unfold holdSwitch
  simp [*])

@[simp ↓] theorem enterHold_frame (h0 : .lines ∈ l) (h1 : .path ∈ l) (h2 : .win ∈ l) (h3 : .smp ∈ l) (h4 : .eng ∈ l) (h5 : .sto ∈ l) (h6 : .dec ∈ l) (h7 : .sw ∈ l) (h8 : .log ∈ l) (h9 : .sup ∈ l) (h10 : .port ∈ l) :
    Frame l s (enterHold t) ↔ Frame l s t := Frame.drop (by
  unfold enterHold
  simp [*])

@[simp ↓] theorem holdEntry_frame (h0 : .lines ∈ l) (h1 : .path ∈ l) (h2 : .win ∈ l) (h3 : .smp ∈ l) (h4 : .eng ∈ l) (h5 : .sto ∈ l) (h6 : .dec ∈ l) (h7 : .sw ∈ l) (h8 : .log ∈ l) (h9 : .sup ∈ l) (h10 : .port ∈ l) (h11 : .tam ∈ l) (h12 : .free ∈ l) :
    Frame l s (holdEntry t) ↔ Frame l s t := Frame.drop (by
  unfold holdEntry
  simp [*])

@[simp ↓] theorem stopAny_frame (h0 : .lines ∈ l) :
    Frame l s (stopAny t) ↔ Frame l s t := Frame.drop (by
  unfold stopAny
  simp [*])

@[simp ↓] theorem warningShares_frame (h0 : .path ∈ l) (h1 : .sto ∈ l) (h2 : .dec ∈ l) (h3 : .sw ∈ l) (h4 : .log ∈ l) :
    Frame l s (warningShares t) ↔ Frame l s t := Frame.drop (by
  unfold warningShares
  simp [*])

@[simp ↓] theorem enterWarned_frame (h0 : .path ∈ l) (h1 : .sto ∈ l) (h2 : .dec ∈ l) (h3 : .sw ∈ l) (h4 : .log ∈ l) (h5 : .sup ∈ l) (h6 : .tam ∈ l) :
    Frame l s (enterWarned t) ↔ Frame l s t := Frame.drop (by
  unfold enterWarned
  simp [*])

@[simp ↓] theorem takeHold_frame (h0 : .lines ∈ l) (h1 : .path ∈ l) (h2 : .win ∈ l) (h3 : .smp ∈ l) (h4 : .eng ∈ l) (h5 : .sto ∈ l) (h6 : .dec ∈ l) (h7 : .sw ∈ l) (h8 : .log ∈ l) (h9 : .sup ∈ l) (h10 : .port ∈ l) (h11 : .tam ∈ l) (h12 : .free ∈ l) :
    Frame l s (takeHold t) ↔ Frame l s t := Frame.drop (by
  unfold takeHold
  simp [*])

@[simp ↓] theorem holdTimerEnd_frame (h0 : .lines ∈ l) (h1 : .path ∈ l) (h2 : .win ∈ l) (h3 : .smp ∈ l) (h4 : .eng ∈ l) (h5 : .sto ∈ l) (h6 : .dec ∈ l) (h7 : .sw ∈ l) (h8 : .log ∈ l) (h9 : .sup ∈ l) (h10 : .port ∈ l) (h11 : .tam ∈ l) (h12 : .free ∈ l) :
    Frame l s (holdTimerEnd t) ↔ Frame l s t := Frame.drop (by
  unfold holdTimerEnd
  simp [*])

@[simp ↓] theorem startLoop_frame (h0 : .smp ∈ l) :
    Frame l s (startLoop t) ↔ Frame l s t := Frame.drop (by
  unfold startLoop
  simp [*])

@[simp ↓] theorem beginHoldExit_frame (h0 : .smp ∈ l) (h1 : .sw ∈ l) (h2 : .sup ∈ l) :
    Frame l s (beginHoldExit t) ↔ Frame l s t := Frame.drop (by
  unfold beginHoldExit
  simp [*])

@[simp ↓] theorem exitPowerUp_frame (h0 : .path ∈ l) (h1 : .log ∈ l) (h2 : .sup ∈ l) :
    Frame l s (exitPowerUp t) ↔ Frame l s t := Frame.drop (by
  unfold exitPowerUp
  simp [*])

@[simp ↓] theorem sequenceAtLock_frame (h0 : .path ∈ l) (h1 : .smp ∈ l) (h2 : .sup ∈ l) :
    Frame l s (sequenceAtLock t) ↔ Frame l s t := Frame.drop (by
  unfold sequenceAtLock
  split
  all_goals simp [*])

@[simp ↓] theorem loopLock_frame (h0 : .path ∈ l) (h1 : .smp ∈ l) (h2 : .sup ∈ l) :
    Frame l s (loopLock t) ↔ Frame l s t := Frame.drop (by
  unfold loopLock
  simp [*])

@[simp ↓] theorem sequenceAtCalibration_frame (h0 : .path ∈ l) (h1 : .smp ∈ l) (h2 : .sw ∈ l) (h3 : .log ∈ l) (h4 : .sup ∈ l) :
    Frame l s (sequenceAtCalibration t) ↔ Frame l s t := Frame.drop (by
  unfold sequenceAtCalibration
  simp [*])

@[simp ↓] theorem calibrationDone_frame (m : BitVec 16) (h0 : .path ∈ l) (h1 : .smp ∈ l) (h2 : .sw ∈ l) (h3 : .log ∈ l) (h4 : .sup ∈ l) :
    Frame l s (calibrationDone m t) ↔ Frame l s t := Frame.drop (by
  unfold calibrationDone
  simp [*])

@[simp ↓] theorem lossOfLock_frame (h0 : .path ∈ l) (h1 : .smp ∈ l) (h2 : .eng ∈ l) (h3 : .sto ∈ l) (h4 : .sw ∈ l) (h5 : .tam ∈ l) (h6 : .log ∈ l) (h7 : .sup ∈ l) (h8 : .free ∈ l) :
    Frame l s (lossOfLock t) ↔ Frame l s t := Frame.drop (by
  unfold lossOfLock
  simp [*])

end Sys2Proof.Machine
end

