-- ==== Sys2Proof/Laws/JobOpsFrame.lean ====
section
/-! SUPPORT. Frames of the operations of jobs and of the port. -/

namespace Sys2Proof.Machine

open Sys2Proof

variable {l : List Block} {s t : State}

@[simp ↓] theorem takeJob_frame (k : JobKind) (g : JobStage) (h0 : .path ∈ l) :
    Frame l s (takeJob k g t) ↔ Frame l s t := Frame.drop (by
  unfold takeJob
  simp [*])

@[simp ↓] theorem startHoldCheck_frame (h0 : .lines ∈ l) (h1 : .path ∈ l) :
    Frame l s (startHoldCheck t) ↔ Frame l s t := Frame.drop (by
  unfold startHoldCheck
  split
  all_goals simp [*])

@[simp ↓] theorem startCommit_frame (k : JobKind) (h0 : .lines ∈ l) (h1 : .path ∈ l) (h2 : .eng ∈ l) (h3 : .sto ∈ l) :
    Frame l s (startCommit k t) ↔ Frame l s t := Frame.drop (by
  unfold startCommit
  simp [*])

@[simp ↓] theorem startPageWrite_frame (h0 : .lines ∈ l) (h1 : .path ∈ l) :
    Frame l s (startPageWrite t) ↔ Frame l s t := Frame.drop (by
  unfold startPageWrite
  simp [*])

@[simp ↓] theorem startAppend_frame (h0 : .lines ∈ l) (h1 : .path ∈ l) (h2 : .log ∈ l) :
    Frame l s (startAppend t) ↔ Frame l s t := Frame.drop (by
  unfold startAppend
  simp [*])

@[simp ↓] theorem startJob_frame (k : JobKind) (h0 : .lines ∈ l) (h1 : .path ∈ l) (h2 : .eng ∈ l) (h3 : .sto ∈ l) (h4 : .log ∈ l) :
    Frame l s (startJob k t) ↔ Frame l s t := Frame.drop (by
  unfold startJob
  split
  all_goals simp [*])

@[simp ↓] theorem jobGrant_frame (h0 : .lines ∈ l) (h1 : .path ∈ l) (h2 : .eng ∈ l) (h3 : .sto ∈ l) (h4 : .log ∈ l) :
    Frame l s (jobGrant t) ↔ Frame l s t := Frame.drop (by
  unfold jobGrant
  split
  all_goals simp [*])

@[simp ↓] theorem page0Done_frame (r : Option (List Byte)) (h0 : .lines ∈ l) (h1 : .path ∈ l) (h2 : .win ∈ l) (h3 : .eng ∈ l) (h4 : .sto ∈ l) (h5 : .sw ∈ l) (h6 : .tam ∈ l) (h7 : .log ∈ l) :
    Frame l s (page0Done r t) ↔ Frame l s t := Frame.drop (by
  unfold page0Done
  simp [*])

@[simp ↓] theorem page1Done_frame (r : Option (List Byte)) (h0 : .lines ∈ l) (h1 : .path ∈ l) (h2 : .win ∈ l) (h3 : .smp ∈ l) (h4 : .sto ∈ l) (h5 : .sw ∈ l) (h6 : .tam ∈ l) (h7 : .log ∈ l) (h8 : .sup ∈ l) :
    Frame l s (page1Done r t) ↔ Frame l s t := Frame.drop (by
  unfold page1Done
  simp [*])

@[simp ↓] theorem slotReadReport_frame (r : Option (List Byte)) (h0 : .path ∈ l) (h1 : .sto ∈ l) (h2 : .sw ∈ l) (h3 : .tam ∈ l) (h4 : .log ∈ l) :
    Frame l s (slotReadReport r t) ↔ Frame l s t := Frame.drop (by
  unfold slotReadReport
  simp [*])

@[simp ↓] theorem slotsDone_frame (a b : Option (List Byte)) (h0 : .lines ∈ l) (h1 : .path ∈ l) (h2 : .eng ∈ l) (h3 : .sto ∈ l) (h4 : .sw ∈ l) (h5 : .tam ∈ l) (h6 : .log ∈ l) :
    Frame l s (slotsDone a b t) ↔ Frame l s t := Frame.drop (by
  unfold slotsDone
  simp [*])

@[simp ↓] theorem slotADone_frame (a : Option (List Byte)) (h0 : .lines ∈ l) (h1 : .path ∈ l) (h3 : .sto ∈ l) (h4 : .sw ∈ l) (h5 : .tam ∈ l) (h6 : .log ∈ l) :
    Frame l s (slotADone a t) ↔ Frame l s t := Frame.drop (by
  unfold slotADone
  simp [*])

@[simp ↓] theorem slotBDone_frame (b : Option (List Byte)) (h0 : .lines ∈ l) (h1 : .path ∈ l) (h2 : .eng ∈ l) (h3 : .sto ∈ l) (h4 : .sw ∈ l) (h5 : .tam ∈ l) (h6 : .log ∈ l) :
    Frame l s (slotBDone b t) ↔ Frame l s t := Frame.drop (by
  unfold slotBDone
  simp [*])

@[simp ↓] theorem slotBRead_frame (b : Option (ReadResult 64)) (h0 : .lines ∈ l) (h1 : .path ∈ l) (h2 : .eng ∈ l) (h3 : .sto ∈ l) (h4 : .sw ∈ l) (h5 : .tam ∈ l) (h6 : .log ∈ l) :
    Frame l s (slotBRead b t) ↔ Frame l s t := Frame.drop (by
  unfold slotBRead
  split
  all_goals simp [*])

@[simp ↓] theorem slotSelection_frame (a : ReadResult 64) (b : Option (ReadResult 64)) (h0 : .lines ∈ l) (h1 : .path ∈ l) (h2 : .eng ∈ l) (h3 : .sto ∈ l) (h4 : .sw ∈ l) (h5 : .tam ∈ l) (h6 : .log ∈ l) :
    Frame l s (slotSelection a b t) ↔ Frame l s t := Frame.drop (by
  unfold slotSelection
  split
  all_goals simp [*])

@[simp ↓] theorem stopRecovery_frame (j : Nat) (h0 : .lines ∈ l) (h1 : .path ∈ l) (h2 : .smp ∈ l) (h3 : .log ∈ l) (h4 : .sup ∈ l) :
    Frame l s (stopRecovery j t) ↔ Frame l s t := Frame.drop (by
  unfold stopRecovery
  simp [*])

@[simp ↓] theorem ringSlotDone_frame (j : Nat) (r : Option (List Byte)) (h0 : .lines ∈ l) (h1 : .path ∈ l) (h2 : .smp ∈ l) (h3 : .sto ∈ l) (h4 : .sw ∈ l) (h5 : .tam ∈ l) (h6 : .log ∈ l) (h7 : .sup ∈ l) :
    Frame l s (ringSlotDone j r t) ↔ Frame l s t := Frame.drop (by
  unfold ringSlotDone
  split
  all_goals simp [*])

@[simp ↓] theorem logSlotRead_frame (r : ReadResult 16) (h0 : .lines ∈ l) (h1 : .path ∈ l) (h2 : .smp ∈ l) (h3 : .sto ∈ l) (h4 : .sw ∈ l) (h5 : .tam ∈ l) (h6 : .log ∈ l) (h7 : .sup ∈ l) :
    Frame l s (logSlotRead r t) ↔ Frame l s t := Frame.drop (by
  unfold logSlotRead
  split
  all_goals simp [*])

@[simp ↓] theorem holdCheckDone_frame (r : Option (List Byte)) (h0 : .lines ∈ l) (h1 : .path ∈ l) (h2 : .sto ∈ l) (h3 : .sw ∈ l) (h4 : .tam ∈ l) (h5 : .log ∈ l) :
    Frame l s (holdCheckDone r t) ↔ Frame l s t := Frame.drop (by
  unfold holdCheckDone
  simp [*])

@[simp ↓] theorem attemptFailed_frame (h0 : .lines ∈ l) (h1 : .path ∈ l) (h2 : .sto ∈ l) (h3 : .dec ∈ l) (h4 : .sw ∈ l) (h5 : .tam ∈ l) (h6 : .log ∈ l) :
    Frame l s (attemptFailed t) ↔ Frame l s t := Frame.drop (by
  unfold attemptFailed
  simp [*])

@[simp ↓] theorem commitWritten_frame (r : WriteResult) (h0 : .lines ∈ l) (h1 : .path ∈ l) (h2 : .sto ∈ l) (h3 : .dec ∈ l) (h4 : .sw ∈ l) (h5 : .tam ∈ l) (h6 : .log ∈ l) :
    Frame l s (commitWritten r t) ↔ Frame l s t := Frame.drop (by
  unfold commitWritten
  simp [*])

@[simp ↓] theorem secondWrite_frame (h0 : .lines ∈ l) (h1 : .path ∈ l) :
    Frame l s (secondWrite t) ↔ Frame l s t := Frame.drop (by
  unfold secondWrite
  simp [*])

@[simp ↓] theorem commitReadBack_frame (r : ReadResult 64) (h0 : .lines ∈ l) (h1 : .path ∈ l) (h2 : .eng ∈ l) (h3 : .sto ∈ l) (h4 : .dec ∈ l) (h5 : .sw ∈ l) (h6 : .tam ∈ l) (h7 : .log ∈ l) :
    Frame l s (commitReadBack r t) ↔ Frame l s t := Frame.drop (by
  unfold commitReadBack
  simp [*])

@[simp ↓] theorem pageEnds_frame (r : Result) (h0 : .lines ∈ l) (h1 : .path ∈ l) (h2 : .port ∈ l) :
    Frame l s (pageEnds r t) ↔ Frame l s t := Frame.drop (by
  unfold pageEnds
  simp [*])

@[simp ↓] theorem pageWritten_frame (r : WriteResult) (h0 : .lines ∈ l) (h1 : .path ∈ l) (h2 : .port ∈ l) :
    Frame l s (pageWritten r t) ↔ Frame l s t := Frame.drop (by
  unfold pageWritten
  simp [*])

@[simp ↓] theorem pageReadBack_frame (r : ReadResult 128) (h0 : .lines ∈ l) (h1 : .path ∈ l) (h2 : .port ∈ l) :
    Frame l s (pageReadBack r t) ↔ Frame l s t := Frame.drop (by
  unfold pageReadBack
  simp [*])

@[simp ↓] theorem appendEnds_frame (h0 : .lines ∈ l) (h1 : .path ∈ l) (h2 : .log ∈ l) (h3 : .sup ∈ l) :
    Frame l s (appendEnds t) ↔ Frame l s t := Frame.drop (by
  unfold appendEnds
  simp [*])

@[simp ↓] theorem appendWritten_frame (a : Addr) (n : Nat) (g : JobStage) (r : WriteResult) (h0 : .lines ∈ l) (h1 : .path ∈ l) (h2 : .log ∈ l) (h3 : .sup ∈ l) :
    Frame l s (appendWritten a n g r t) ↔ Frame l s t := Frame.drop (by
  unfold appendWritten
  simp [*])

@[simp ↓] theorem pollAck_frame (h0 : .lines ∈ l) (h1 : .path ∈ l) (h2 : .log ∈ l) (h3 : .sup ∈ l) :
    Frame l s (pollAck t) ↔ Frame l s t := Frame.drop (by
  unfold pollAck
  split
  all_goals simp [*])

@[simp ↓] theorem restorePointers_frame (b : Bool) (k : JobKind) (h0 : .path ∈ l) :
    Frame l s (restorePointers b k t) ↔ Frame l s t := Frame.drop (by
  unfold restorePointers
  simp [*])

@[simp ↓] theorem urgentEnded_frame (h0 : .sup ∈ l) :
    Frame l s (urgentEnded t) ↔ Frame l s t := Frame.drop (by
  unfold urgentEnded
  simp [*])

@[simp ↓] theorem readsEnded_frame (h0 : .path ∈ l) (h1 : .smp ∈ l) (h2 : .sw ∈ l) (h3 : .log ∈ l) (h4 : .sup ∈ l) :
    Frame l s (readsEnded t) ↔ Frame l s t := Frame.drop (by
  unfold readsEnded
  split
  all_goals simp [*])

@[simp ↓] theorem jobEnded_frame (k : JobKind) (h0 : .path ∈ l) (h1 : .smp ∈ l) (h2 : .sto ∈ l) (h3 : .sw ∈ l) (h4 : .log ∈ l) (h5 : .sup ∈ l) (h6 : .port ∈ l) :
    Frame l s (jobEnded k t) ↔ Frame l s t := Frame.drop (by
  unfold jobEnded
  split
  all_goals simp [*])

@[simp ↓] theorem restoreEnd_frame (b : Bool) (h0 : .path ∈ l) (h1 : .smp ∈ l) (h2 : .sto ∈ l) (h3 : .sw ∈ l) (h4 : .log ∈ l) (h5 : .sup ∈ l) (h6 : .port ∈ l) :
    Frame l s (restoreEnd b t) ↔ Frame l s t := Frame.drop (by
  unfold restoreEnd
  split
  all_goals simp [*])

@[simp ↓] theorem pointerRestoreEnd_frame (b : Bool) (h0 : .path ∈ l) (h1 : .smp ∈ l) (h2 : .sto ∈ l) (h3 : .sw ∈ l) (h4 : .log ∈ l) (h5 : .sup ∈ l) (h6 : .port ∈ l) :
    Frame l s (pointerRestoreEnd b t) ↔ Frame l s t := Frame.drop (by
  unfold pointerRestoreEnd
  simp [*])

@[simp ↓] theorem jobFailed_frame (h0 : .lines ∈ l) (h1 : .path ∈ l) (h2 : .win ∈ l) (h3 : .smp ∈ l) (h4 : .eng ∈ l) (h5 : .sto ∈ l) (h6 : .dec ∈ l) (h7 : .sw ∈ l) (h8 : .tam ∈ l) (h9 : .log ∈ l) (h10 : .sup ∈ l) (h11 : .port ∈ l) :
    Frame l s (jobFailed t) ↔ Frame l s t := Frame.drop (by
  unfold jobFailed
  split
  all_goals simp [*])

@[simp ↓] theorem jobClockFault_frame (h0 : .lines ∈ l) (h1 : .path ∈ l) (h2 : .win ∈ l) (h3 : .smp ∈ l) (h4 : .eng ∈ l) (h5 : .sto ∈ l) (h6 : .dec ∈ l) (h7 : .sw ∈ l) (h8 : .tam ∈ l) (h9 : .log ∈ l) (h10 : .sup ∈ l) (h11 : .port ∈ l) :
    Frame l s (jobClockFault t) ↔ Frame l s t := Frame.drop (by
  unfold jobClockFault
  simp [*])

@[simp ↓] theorem memoryClockFault_frame (h0 : .lines ∈ l) (h1 : .path ∈ l) (h2 : .win ∈ l) (h3 : .smp ∈ l) (h4 : .eng ∈ l) (h5 : .sto ∈ l) (h6 : .dec ∈ l) (h7 : .sw ∈ l) (h8 : .tam ∈ l) (h9 : .log ∈ l) (h10 : .sup ∈ l) (h11 : .port ∈ l) (h12 : .pins ∈ l) :
    Frame l s (memoryClockFault t) ↔ Frame l s t := Frame.drop (by
  unfold memoryClockFault
  split
  · simp [*]
  · split
    all_goals simp [*])

@[simp ↓] theorem page0Read_frame (r : ReadResult 128) (h0 : .lines ∈ l) (h1 : .path ∈ l) (h2 : .win ∈ l) (h3 : .eng ∈ l) (h4 : .sto ∈ l) (h5 : .sw ∈ l) (h6 : .tam ∈ l) (h7 : .log ∈ l) :
    Frame l s (page0Read r t) ↔ Frame l s t := Frame.drop (by
  unfold page0Read
  simp [*])

@[simp ↓] theorem page1Read_frame (r : ReadResult 128) (h0 : .lines ∈ l) (h1 : .path ∈ l) (h2 : .win ∈ l) (h3 : .smp ∈ l) (h4 : .sto ∈ l) (h5 : .sw ∈ l) (h6 : .tam ∈ l) (h7 : .log ∈ l) (h8 : .sup ∈ l) :
    Frame l s (page1Read r t) ↔ Frame l s t := Frame.drop (by
  unfold page1Read
  simp [*])

@[simp ↓] theorem commitWriteDone_frame (r : WriteResult) (h0 : .lines ∈ l) (h1 : .path ∈ l) (h2 : .sto ∈ l) (h3 : .dec ∈ l) (h4 : .sw ∈ l) (h5 : .tam ∈ l) (h6 : .log ∈ l) :
    Frame l s (commitWriteDone r t) ↔ Frame l s t := Frame.drop (by
  unfold commitWriteDone
  split
  all_goals simp [*])

@[simp ↓] theorem commitReadbackDone_frame (r : ReadResult 64) (h0 : .lines ∈ l) (h1 : .path ∈ l) (h2 : .eng ∈ l) (h3 : .sto ∈ l) (h4 : .dec ∈ l) (h5 : .sw ∈ l) (h6 : .tam ∈ l) (h7 : .log ∈ l) :
    Frame l s (commitReadbackDone r t) ↔ Frame l s t := Frame.drop (by
  unfold commitReadbackDone
  simp [*])

@[simp ↓] theorem holdExitCheck_frame (r : ReadResult 64) (h0 : .lines ∈ l) (h1 : .path ∈ l) (h2 : .sto ∈ l) (h3 : .sw ∈ l) (h4 : .tam ∈ l) (h5 : .log ∈ l) :
    Frame l s (holdExitCheck r t) ↔ Frame l s t := Frame.drop (by
  unfold holdExitCheck
  simp [*])

@[simp ↓] theorem logAppendWriteDone_frame (r : WriteResult) (h0 : .lines ∈ l) (h1 : .path ∈ l) (h2 : .log ∈ l) (h3 : .sup ∈ l) :
    Frame l s (logAppendWriteDone r t) ↔ Frame l s t := Frame.drop (by
  unfold logAppendWriteDone
  split
  all_goals simp [*])

@[simp ↓] theorem pageWriteDone_frame (r : WriteResult) (h0 : .lines ∈ l) (h1 : .path ∈ l) (h2 : .port ∈ l) :
    Frame l s (pageWriteDone r t) ↔ Frame l s t := Frame.drop (by
  unfold pageWriteDone
  simp [*])

@[simp ↓] theorem pageWriteResult_frame (r : ReadResult 128) (h0 : .lines ∈ l) (h1 : .path ∈ l) (h2 : .port ∈ l) :
    Frame l s (pageWriteResult r t) ↔ Frame l s t := Frame.drop (by
  unfold pageWriteResult
  simp [*])

@[simp ↓] theorem pselFallOp_frame (h0 : .port ∈ l) :
    Frame l s (pselFallOp t) ↔ Frame l s t := Frame.drop (by
  unfold pselFallOp
  simp [*])

@[simp ↓] theorem replied_frame (r : List Byte) (h0 : .port ∈ l) :
    Frame l s (replied r t) ↔ Frame l s t := Frame.drop (by
  unfold replied
  simp [*])

@[simp ↓] theorem setResult_frame (r : Result) (h0 : .port ∈ l) :
    Frame l s (setResult r t) ↔ Frame l s t := Frame.drop (by
  unfold setResult
  simp [*])

@[simp ↓] theorem refuseSealed_frame (h0 : .path ∈ l) (h1 : .sto ∈ l) (h2 : .sw ∈ l) (h3 : .tam ∈ l) (h4 : .log ∈ l) (h5 : .port ∈ l) :
    Frame l s (refuseSealed t) ↔ Frame l s t := Frame.drop (by
  unfold refuseSealed
  simp [*])

@[simp ↓] theorem identOp_frame (h0 : .port ∈ l) :
    Frame l s (identOp t) ↔ Frame l s t := Frame.drop (by
  unfold identOp
  simp [*])

@[simp ↓] theorem statusOp_frame (h0 : .port ∈ l) :
    Frame l s (statusOp t) ↔ Frame l s t := Frame.drop (by
  unfold statusOp
  simp [*])

@[simp ↓] theorem keyOp_frame (d : List Byte) (h0 : .path ∈ l) (h1 : .sto ∈ l) (h2 : .dec ∈ l) (h3 : .sw ∈ l) (h4 : .tam ∈ l) (h5 : .log ∈ l) (h6 : .port ∈ l) :
    Frame l s (keyOp d t) ↔ Frame l s t := Frame.drop (by
  unfold keyOp
  dsimp only
  repeat' split
  all_goals simp [*])

@[simp ↓] theorem clearPageValid_frame (n : Nat) (h0 : .win ∈ l) :
    Frame l s (clearPageValid n t) ↔ Frame l s t := Frame.drop (by
  unfold clearPageValid
  simp [*])

@[simp ↓] theorem acceptPage_frame (n : Nat) (d : List Byte) (h0 : .path ∈ l) (h1 : .win ∈ l) (h2 : .port ∈ l) :
    Frame l s (acceptPage n d t) ↔ Frame l s t := Frame.drop (by
  unfold acceptPage
  simp [*])

@[simp ↓] theorem pageOp_frame (b : Byte) (d : List Byte) (h0 : .path ∈ l) (h1 : .win ∈ l) (h2 : .sto ∈ l) (h3 : .sw ∈ l) (h4 : .tam ∈ l) (h5 : .log ∈ l) (h6 : .port ∈ l) :
    Frame l s (pageOp b d t) ↔ Frame l s t := Frame.drop (by
  unfold pageOp
  simp [*])

@[simp ↓] theorem sealOp_frame (h0 : .port ∈ l) :
    Frame l s (sealOp t) ↔ Frame l s t := Frame.drop (by
  unfold sealOp
  simp [*])

@[simp ↓] theorem unknownOp_frame (b : Byte) (h0 : .port ∈ l) :
    Frame l s (unknownOp b t) ↔ Frame l s t := Frame.drop (by
  unfold unknownOp
  simp [*])

end Sys2Proof.Machine
end

