-- ==== Sys2Proof/Laws/PerInstr.lean ====
section
/-! SUPPORT. What holds of every command as syntax, one lemma per constructor: it is well formed, unless it is an UNKNOWN_INSTRUCTION
whose code does name an instruction of the port (12.7). -/

namespace Sys2Proof.Laws.WellFormedCommand

open Sys2Proof

/-- The only ill-formed commands are those UNKNOWN_INSTRUCTIONs whose code names an instruction. -/
def Statement (i : Instr) : Prop := i.wf = true ∨ ∃ code, code ∈ portCodes ∧ i = .unknownInstruction code

theorem addressByte (select : BitVec 7) (dir : Dir) (ack : Bool) : Statement (.addressByte select dir ack) := .inl rfl

theorem foreignByte (byte : Byte) (ack : Bool) : Statement (.foreignByte byte ack) := .inl rfl

theorem wordAddressByte (byte : Byte) (ack : Bool) : Statement (.wordAddressByte byte ack) := .inl rfl

theorem hostWriteDataByte (byte : Byte) (ack : Bool) : Statement (.hostWriteDataByte byte ack) := .inl rfl

theorem hostReadDataByte (byte : Byte) (ack : Bool) : Statement (.hostReadDataByte byte ack) := .inl rfl

theorem hostStop : Statement (.hostStop) := .inl rfl

theorem busError (e : MidByteEdge) : Statement (.busError e) := .inl rfl

theorem holdLimitExpiry : Statement (.holdLimitExpiry) := .inl rfl

theorem cutStateByte (dir : Dir) : Statement (.cutStateByte dir) := .inl rfl

theorem memoryClockFault : Statement (.memoryClockFault) := .inl rfl

theorem jobGrant : Statement (.jobGrant) := .inl rfl

theorem pollAck : Statement (.pollAck) := .inl rfl

theorem pollTimeout : Statement (.pollTimeout) := .inl rfl

theorem pointerRestoreEnd (ok : Bool) : Statement (.pointerRestoreEnd ok) := .inl rfl

theorem page0ReadDone (r : ReadResult 128) : Statement (.page0ReadDone r) := .inl rfl

theorem page1ReadDone (r : ReadResult 128) : Statement (.page1ReadDone r) := .inl rfl

theorem loopLock : Statement (.loopLock) := .inl rfl

theorem lossOfLock : Statement (.lossOfLock) := .inl rfl

theorem calibrationDone (measured : BitVec 16) : Statement (.calibrationDone measured) := .inl rfl

theorem frame (v iL iN aux : BitVec 16) : Statement (.frame v iL iN aux) := .inl rfl

theorem captureComplete : Statement (.captureComplete) := .inl rfl

theorem monitorStateChange (m : Monitor) : Statement (.monitorStateChange m) := .inl rfl

theorem blockEnd : Statement (.blockEnd) := .inl rfl

theorem zcFilterSettle (high : Bool) : Statement (.zcFilterSettle high) := .inl rfl

theorem risingCrossing : Statement (.risingCrossing) := .inl rfl

theorem spendThreshold : Statement (.spendThreshold) := .inl rfl

theorem livePowerUpdate : Statement (.livePowerUpdate) := .inl rfl

theorem commitWriteDone (r : WriteResult) : Statement (.commitWriteDone r) := .inl rfl

theorem commitReadbackDone (r : ReadResult 64) : Statement (.commitReadbackDone r) := .inl rfl

theorem slotSelection (a b : ReadResult 64) : Statement (.slotSelection a b) := .inl rfl

theorem holdExitCheck (r : ReadResult 64) : Statement (.holdExitCheck r) := .inl rfl

theorem buttonFilterSettle (pressed : Bool) : Statement (.buttonFilterSettle pressed) := .inl rfl

theorem crossingWaitTimeout : Statement (.crossingWaitTimeout) := .inl rfl

theorem zeroCrossDelayEnd : Statement (.zeroCrossDelayEnd) := .inl rfl

theorem pulseEnd : Statement (.pulseEnd) := .inl rfl

theorem settleTimeEnd : Statement (.settleTimeEnd) := .inl rfl

theorem captureRequestRetry : Statement (.captureRequestRetry) := .inl rfl

theorem openRelayIlRun : Statement (.openRelayIlRun) := .inl rfl

theorem overloadTrip : Statement (.overloadTrip) := .inl rfl

theorem limitDelayEnd : Statement (.limitDelayEnd) := .inl rfl

theorem cleanTimeEnd : Statement (.cleanTimeEnd) := .inl rfl

theorem switchInputFilterSettle (input : SwitchInput) (isOpen : Bool) : Statement (.switchInputFilterSettle input isOpen) := .inl rfl

theorem imbalanceChange : Statement (.imbalanceChange) := .inl rfl

theorem reverseChange : Statement (.reverseChange) := .inl rfl

theorem logAppendWriteDone (r : WriteResult) : Statement (.logAppendWriteDone r) := .inl rfl

theorem logSlotReadDone (r : ReadResult 16) : Statement (.logSlotReadDone r) := .inl rfl

theorem powerFailWarning : Statement (.powerFailWarning) := .inl rfl

theorem warningClear : Statement (.warningClear) := .inl rfl

theorem holdEntryTimerEnd : Statement (.holdEntryTimerEnd) := .inl rfl

theorem supplyLoss : Statement (.supplyLoss) := .inl rfl

theorem coldStart : Statement (.coldStart) := .inl rfl

theorem pselFall : Statement (.pselFall) := .inl rfl

theorem pselRise : Statement (.pselRise) := .inl rfl

theorem ident : Statement (.ident) := .inl rfl

theorem status : Statement (.status) := .inl rfl

theorem key (data : Vector Byte 40) : Statement (.key data) := .inl rfl

theorem page (number : Byte) (data : Vector Byte 128) : Statement (.page number data) := .inl rfl

theorem restart : Statement (.restart) := .inl rfl

theorem unknownInstruction (code : Byte) : Statement (.unknownInstruction code) := by
  by_cases h : code ∈ portCodes
  · exact .inr ⟨code, h, rfl⟩
  · exact .inl (by simp [Instr.wf, h])

theorem pageWriteResult (r : ReadResult 128) : Statement (.pageWriteResult r) := .inl rfl

theorem pclkRisingEdge (pdi : Bool) : Statement (.pclkRisingEdge pdi) := .inl rfl

theorem pageWriteDone (r : WriteResult) : Statement (.pageWriteDone r) := .inl rfl

theorem memoryClockSeenHigh : Statement (.memoryClockSeenHigh) := .inl rfl

end Sys2Proof.Laws.WellFormedCommand

/-- SEAL, under its full name: the last part of the name alone is a word of Lean's. -/
theorem Sys2Proof.Laws.WellFormedCommand.seal : Sys2Proof.Laws.WellFormedCommand.Statement .seal := .inl rfl
end

