-- ==== Sys2Proof/Tests/Slice0.lean ====
section
/-! SUPPORT. The model's own tests. The expected values are the manual's: its worked examples and sequences, or figures worked out by
hand from its rules; each test names its source. Then, for each statement with hypotheses, one theorem that shows states and operands
that meet them. -/

namespace Sys2Proof.Tests

open Sys2Proof Sys2Proof.Machine

-- One test after the other: a `decide +kernel` waits for every theorem before it, and would hold a thread of its own while it waits.
set_option Elab.async false

/-! ## Well-formedness -/

/-- R182: the code of SEAL does name an instruction. -/
theorem test_wf_refuses_named_code : (Instr.unknownInstruction 0x5E).wf = false := by decide

/-- 12.7: 0x00 names none. -/
theorem test_wf_unknown_code : (Instr.unknownInstruction 0x00).wf = true := by decide

/-- The table gives no bits, so no word spells a command and the queue stays as it is. -/
theorem test_no_word_spells_a_command : (State.reset.withFetchWord 8 1).pending = [] := by decide

/-! ## States to test on -/

/-- No open reason. -/
def noReasons : Reasons := { Reasons.cold with unset := false }

/-- A part that runs, CONFIGURED, with an account, its relay CLOSED and nothing waiting. The regions are the manual's (chapter 2,
worked example). -/
def running : State := { State.reset with
  path := { State.reset.path with causeStartUp := false, mirror := some 0 }
  win := { State.reset.win with
    configured := true
    table := [⟨2, 2, .sealedRegion⟩, ⟨4, 2, .account⟩, ⟨6, 16, .log⟩, ⟨510, 1, .inbox⟩, ⟨511, 1, .live⟩] }
  smp := { State.reset.smp with loop := .locked, conv := .calibrated }
  eng := { State.reset.eng with account := true, credit := 12345, rate := 1850, limit := 2000, allow := 20000, repUnset := false }
  sto := { State.reset.sto with state := .loaded, slot := some .a }
  sw := { State.reset.sw with
    relay := .closed, reasons := noReasons, held := false, awaitRecord := false, unconfigured := false, rateUnset := false
    account := .loaded, buttonOn := true, button := .released }
  tam := { State.reset.tam with loaded := true }
  log := { State.reset.log with ring := some { first := 6, pages := 2 }, recovering := false }
  sup := { State.reset.sup with phase := .running, raised := false, step := .noStep } }

/-- A memory-class transaction of the host, in this phase, with this window. -/
def hosted (phase : UpPhase) (window : Option Window) : State := { running with
  path := { running.path with owner := .host, phase := phase, window := window, segOpen := true, memClass := true } }

/-- A job that holds the segment. -/
def working (kind : JobKind) (stage : JobStage) : State := { running with
  path := { running.path with owner := .own, run := some { kind := kind, stage := stage } } }

/-- A job that waits. -/
def waitingJob (kind : JobKind) : State := { running with path := { running.path with jobs := [kind] } }

/-- An operation at a step. -/
def moving (relay : Relay) (attempt : Nat) (step : OpStep) : State := { running with
  sw := { running.sw with
    relay := relay, op := some { attempt := attempt, step := step, unsync := false, reason := some .credit } } }

/-- A capture that is complete, with this largest magnitude and this sum of squares. -/
def captured (s : State) (largest sum : Nat) : State := { s with
  smp := { s.smp with capture := .running, capCount := 64, capMax := largest, capSum := sum } }

/-- The state after a command. -/
def after (c : Instr) (s : State) : State :=
  match exec c s with
  | .next t => t
  | .fault _ => s
  | .refused _ => s

/-- A read that gave these bytes. -/
def read (n : Nat) (bs : List Byte) : ReadResult n := .bytes (Vector.ofFn fun i => bs.getD i.val 0)

/-! ## Chapters 1 and 2 -/

/-- R1: a select that differs from the strap in a bit that the mask frees. -/
theorem test_select_mask_frees : isMemoryClass 0b000 0b001 0x51 = true := by decide

/-- R1: and in one that it does not free. -/
theorem test_select_mask_holds : isMemoryClass 0b000 0b001 0x52 = false := by decide

/-- 1, worked sequence: an address byte while a job holds the segment is answered NACK and nothing is carried. -/
theorem test_addressByte_busy :
    (after (.addressByte 0x50 .read true) (working .commit .commitPoll)).lines =
      { hostAck := some false, hostByte := none, seg := [], pdo := none } := by decide +kernel

/-- 2, worked example: the word address 0xFF23 fixes the INBOX page's window. -/
theorem test_wordAddress_window :
    (after (.wordAddressByte 0x23 true) (hosted (.wordHigh 0xFF true) none)).path.window = some .inbox := by decide +kernel

/-- 2, worked example: 0x02FF is in slot B's page, 0x0B00 in page 22, which is OPEN. -/
theorem test_windows_of_example :
    running.win.windowOf 5 = .account ∧ running.win.windowOf 22 = .openPage ∧ running.win.windowOf 21 = .log := by decide +kernel

/-- R23 and 2, worked example: the table is valid; a LOG region of 65 pages, and LIVE at page 21, are not. -/
theorem test_region_table :
    tableValid running.win.table = true ∧
    tableValid [⟨4, 2, .account⟩, ⟨6, 65, .log⟩, ⟨510, 1, .inbox⟩, ⟨511, 1, .live⟩] = false ∧
    tableValid [⟨4, 2, .account⟩, ⟨6, 16, .log⟩, ⟨510, 1, .inbox⟩, ⟨21, 1, .live⟩] = false := by decide +kernel

/-- R9: an OPEN page's pointer goes from offset 127 to offset 0. -/
theorem test_openPage_wraps :
    (after (.hostWriteDataByte 1 true) { hosted .writing (some .openPage) with
      path := { (hosted .writing (some .openPage)).path with mirror := some 0x0B7F } }).path.mirror = some 0x0B00 := by
  decide +kernel

/-- R7, R158: the first byte for page 0 is refused, and PATH is HELD. -/
theorem test_guarded_page :
    (after (.hostWriteDataByte 1 true) (hosted .pointerSet (some .page0))).lines.seg = [.stop] ∧
    (after (.hostWriteDataByte 1 true) (hosted .pointerSet (some .page0))).tam.latches.path = .held := by decide +kernel

/-- R10: a read crosses pages and wraps at 0xFFFF. -/
theorem test_read_wraps :
    (after (.hostReadDataByte 9 true) { hosted (.reading .acked) none with
      path := { (hosted (.reading .acked) none).path with mirror := some 0xFFFF } }).path.mirror = some 0 := by decide +kernel

/-- 2, worked example: 36 positions past the records the INBOX page reads 0x00, whatever the memory holds. -/
theorem test_read_inbox_view :
    (after (.hostReadDataByte 0xAA true) { hosted (.reading .unread) none with
      path := { (hosted (.reading .unread) none).path with mirror := some 0xFF23 } }).lines.hostByte = some 0 := by
  decide +kernel

/-- R16: a read whose last byte was acknowledged has one byte clocked and discarded at the cut. -/
theorem test_cut_of_read :
    (after .holdLimitExpiry { hosted (.reading .acked) none with
      path := { (hosted (.reading .acked) none).path with jobs := [.commit] } }).lines.seg = [.get false, .stop] := by
  decide +kernel

/-- R3: the URGENT COMMIT comes before an append that waited first. -/
theorem test_job_order :
    ((after .jobGrant { running with path := { running.path with jobs := [.logAppend, .urgentCommit] } }).path.run.map
      (·.kind)) = some .urgentCommit := by decide +kernel

/-- R1, R14: a job's select is 1010 with the exact straps, whatever the mask frees. -/
theorem test_job_select :
    let s := { waitingJob .logAppend with win := { running.win with selectMask := 0b111 } }
    (after .jobGrant { s with path := { s.path with strap := 0b101 } }).lines.seg.map (fun | .own x _ => some x | _ => none) =
      [some 0x55] := by decide +kernel

/-- R3, R20: what else waits between hold exit and the end of its check stands still. -/
theorem test_grant_waits_for_check :
    (after .jobGrant { waitingJob .commit with sup := { running.sup with phase := .resuming, step := .exitCal } }).path.owner =
      .free := by decide +kernel

/-- R8, R18: the clock fault at the STOP of an INBOX write's first byte ends the transaction as a cut does, with the STOP owed. -/
theorem test_clock_fault_at_inbox_stop :
    let t := after .memoryClockFault (after (.hostWriteDataByte 0x21 true)
      { hosted .pointerSet (some .inbox) with path := { (hosted .pointerSet (some .inbox)).path with wordAddr := 0xFF00 } })
    t.path.phase = .cut ∧ t.path.owner = .free ∧ t.path.stopOwed = true ∧ t.path.mirror = none ∧
    t.dec.outcomes.map (·.outcome) = [.malformed] := by decide +kernel

/-- R18: the STOP owed comes before what the job begins next. -/
theorem test_stop_owed_comes_first :
    let t := after .memoryClockFault (working .logAppend .logBody)
    t.lines.seg = [] ∧ (after .memoryClockSeenHigh t).lines.seg = [.stop, .own 0x50 (.write 0 [])] := by decide +kernel

/-- The part as it carries a byte of the host on the memory segment. -/
def carrying (b : CarriedByte) (s : State) : State := s.modPins fun p => { p with midByte := true, carried := some b }

/-- R4, R18: the clock fault while the address byte after a START is carried: the transaction has begun, and ends as at a cut. -/
theorem test_clock_fault_in_address_byte :
    let t := after .memoryClockFault (carrying (.address 0x50 .write) running)
    t.path.phase = .cut ∧ t.path.owner = .free ∧ t.path.stopOwed = true ∧ t.path.mirror = none ∧ t.path.hostPtr = none ∧
    t.pins.carried = none ∧
    (after .memoryClockFault (carrying (.address 0x22 .write) running)).path.hostPtr = running.path.hostPtr := by decide +kernel

/-- R18: the clock held low counts while a byte of the host is carried, and not in the pauses between the host's bytes. -/
theorem test_pauses_do_not_count :
    let s := (hosted .writing (some .openPage)).modPins fun p => { p with msclHigh := false }
    (tick s).path.clockLowTime = 0 ∧ (tick (carrying .later s)).path.clockLowTime = 1 := by decide +kernel

/-! ## Chapter 3 -/

/-- R43: a conversion of -32768 less an offset of 1 saturates. -/
theorem test_sample_saturates : sample 0x8000 1 = -32768 := by decide

/-- R42, R57: v × iL joins the line sum, and iL squared the sum for the Switch Controller. -/
theorem test_frame_sums :
    (after (.frame 100 0xFFFE 3 0) running).eng.sl = -200 ∧ (after (.frame 100 0xFFFE 3 0) running).eng.sn = 300 ∧
    (after (.frame 100 0xFFFE 3 0) running).smp.ilSum = 4 := by decide +kernel

/-- R44: frame 63 ends the block. -/
theorem test_frame_63 :
    (after (.frame 0 0 0 0) { running with smp := { running.smp with framePos := 63 } }).smp.blockDue = true := by decide +kernel

/-- R49: the third HALL sample outside the band makes the monitor ACTIVE, and MAGNET with it (R153). -/
theorem test_hall_active :
    (after (.monitorStateChange .hall) { running with
      smp := { running.smp with hall := { active := false, activeRun := 3, absentRun := 0 } } }).tam.latches.magnet = .active := by
  decide +kernel

/-- R38, R52, R130, R151: a filter at neither level starts its count afresh where the level changes. -/
theorem test_unsettled_filter_restarts :
    countLevel none true true (ms 50) 7 = 8 ∧ countLevel none true false (ms 50) 7 = 1 ∧
    countLevel (some true) true true (ms 50) 7 = 0 ∧ countLevel (some true) true false (ms 50) 7 = 8 := by decide

/-! ## Chapter 4 -/

/-- A block whose end is due. -/
def block (sl sn : Int) : State := { running with
  eng := { running.eng with sl := sl, sn := sn, charge := 990000, spend := 640, winCount := 49, winSum := 176400000000000000 }
  smp := { running.smp with blockDue := true } }

/-- 4, worked example of one block: E, n = 12, F, Q, C, spend and OVER. -/
theorem test_block_example :
    let t := after .blockEnd (block 2000000000 1996000000)
    t.eng.cumulative = 12 ∧ t.eng.fine = 222300279472128 ∧ t.eng.charge = 12200 ∧ t.eng.credit = 12344 ∧
    t.eng.spend = 641 ∧ t.sw.overRun = 1 := by decide +kernel

/-- The same example's live power, which the live view shows from the block's end on (R33). -/
theorem test_power_example :
    (after .livePowerUpdate (after .blockEnd (block 2000000000 1996000000))).eng.power = 2302 ∧
    field (liveView (after .blockEnd (block 2000000000 1996000000))) 39 2 = 2302 := by decide +kernel

/-- 4, worked example of a new rate at a kWh boundary. -/
theorem test_rate_boundary_example :
    let s := block 2000000000 1996000000
    let t := after .blockEnd { s with
      eng := { s.eng with pendingRate := some 2100, cumulative := 1999995, charge := 980000 } }
    t.eng.cumulative = 2000007 ∧ t.eng.charge = 3950 ∧ t.eng.rate = 2100 ∧ t.eng.pendingRate = none ∧
    t.log.queue.map (·.kind) = [.rateActive] ∧ t.sto.waiting = some .boundary := by decide +kernel

/-- 4, worked example of the magnet floor at no load, its first block. -/
theorem test_magnet_floor_example :
    let s := block 0 0
    let t := after .blockEnd { s with
      win := { s.win with cal := { s.win.cal with pPen := 1000 } }
      tam := { s.tam with latches := { s.tam.latches with magnet := .active } } }
    t.eng.cumulative = 5 ∧ t.eng.fine = 156374987061475 := by decide +kernel

/-- 4, worked example of emergency credit: the press at C = 0. -/
theorem test_emergency_credit :
    let s := { running with
      eng := { running.eng with credit := 0, repCredit := true }
      sw := { running.sw with relay := .opened, reasons := { noReasons with credit := true }, creditCond := true } }
    let t := after (.buttonFilterSettle true) s
    t.eng.ec = .inUse ∧ t.sw.relay = .closing ∧ t.sw.armed = false ∧ t.log.queue.map (·.kind) = [.ecTaken] := by decide +kernel

/-- The same example: a block with m = 3 at C = -19,999 reaches SPENT and leaves 2 mils to the shortfall. -/
theorem test_emergency_spent :
    let s := block 0 0
    let t := after .blockEnd { s with eng := { s.eng with credit := -19999, ec := .inUse, charge := 3000000, shortfall := 1 } }
    t.eng.credit = -20000 ∧ t.eng.ec = .spent ∧ t.eng.shortfall = 3 := by decide +kernel

/-- R58, R141, R147: the 250th OVER block trips although it uses up the credit. -/
theorem test_trip_before_credit :
    let s := block 2000000000 0
    let t := after .blockEnd { s with
      eng := { s.eng with credit := 1, charge := 1000000 }, sw := { s.sw with overRun := 249 } }
    t.sw.reasons = { noReasons with credit := true, limit := true } ∧ t.sw.retry = 1 ∧ t.sw.overRun = 0 ∧
    t.sw.op.map (·.reason) = some (some .limit) := by decide +kernel

/-- R80: a block that is complete at hold entry is charged. -/
theorem test_hold_entry_takes_block :
    let s := block 2000000000 1996000000
    let t := after .holdEntryTimerEnd { s with sup := { s.sup with phase := .warned, raised := true } }
    t.eng.cumulative = 12 ∧ t.eng.credit = 12344 ∧ t.eng.sl = 0 ∧ t.sup.phase = .held := by decide +kernel

/-- R139: an IL run of 50 stays there at a block without current. -/
theorem test_open_run_stays :
    let s := block 0 0
    (after .blockEnd { s with sw := { s.sw with
      relay := .opened, reasons := { noReasons with credit := true }, openPeriod := true, relayFound := true
      ilRun := 50 } }).sw.ilRun = 50 := by decide +kernel

/-! ## Chapters 5 and 6 -/

/-- R189: the CRC of the nine bytes 0x31 to 0x39. -/
theorem test_crc : crc16 [0x31, 0x32, 0x33, 0x34, 0x35, 0x36, 0x37, 0x38, 0x39] = 0x29B1 := by decide +kernel

/-- 5, worked sequence: the snapshot of a commit that carries CREDIT 42 on C = 12,100 and H = 40. -/
theorem test_snapshot_example :
    let s := { waitingJob .commit with
      eng := { running.eng with credit := 12100, spend := 244 }
      sto := { running.sto with high := 40, used := 1, waiting := some .token, held := some ⟨.credit, 5000, 42⟩ } }
    let t := after .jobGrant s
    (t.sto.snapshot.map fun r => (r.credit, r.high, r.used)) = some (62100, 42, 5) ∧ t.eng.spend = 0 ∧
    t.sto.stage = .inFlight ∧ t.sto.inTrigger = some .token := by decide +kernel

/-- R96: slot B's failure leaves the bytes of slot A, and its record is loaded. -/
theorem test_slot_a_kept :
    let s := { working .startUpReads .readSlotA with
      sup := { running.sup with phase := .starting, step := .coldReads }, tam := { running.tam with loaded := false } }
    let r : Record := {
      generation := 7, credit := 9, shortfall := 0, fine := 0, cumulative := 0, rate := 1, relayClosed := true
      armed := false, retry := 0, pendingRate := none, ec := .available, pendingAllow := none, limit := 0, allow := 0
      high := 0, reasons := noReasons, head := 0, used := 0, latches := .cold, charge := 0, appendNo := 0 }
    let t := after .pollTimeout (after (.slotSelection (read 64 r.encode) none) s)
    t.sto.state = .loaded ∧ t.sto.slot = some .a ∧ t.eng.credit = 9 ∧ t.tam.latches.memory = .held := by decide +kernel

/-- 6, worked example: the key of the meter. -/
def exampleKey : Key where
  map := (List.range' 1 18).reverse
  mask := [3, 1, 4, 1, 5, 9, 2, 6, 5, 3, 5, 8, 9, 7, 9, 3, 2, 3]
  a := 1234
  b := 567

/-- 6, worked example: the digits that the customer keys. -/
def exampleDigits : List Nat := [9, 6, 2, 6, 7, 9, 8, 0, 3, 5, 6, 2, 1, 9, 1, 4, 1, 4]

/-- 6, worked example: the code is CREDIT 42 of 5,000 centi-credits, with check 7,946, and passes. -/
theorem test_code_example :
    let f := codeFields (unscramble exampleKey exampleDigits)
    f.kind = 1 ∧ f.seq = 42 ∧ f.value = 5000 ∧ f.check = 7946 ∧ f.passes exampleKey = true := by decide +kernel

/-- A submission of these digits, with tag 0x21, that its STOP ends. -/
def submitted (digits : List Nat) : State := { hosted .writing (some .inbox) with
  path := { (hosted .writing (some .inbox)).path with segOpen := false }
  dec := { running.dec with
    key := some exampleKey
    places := [{ state := .filling, tag := 0x21, bytes := digits.map fun d => BitVec.ofNat 8 (0x30 + d)
                 overLength := false, busError := false, entry := 0 }]
    outcomes := [{ entry := 0, tag := 0x21, outcome := .pending, kindSeq := none, detail := none }]
    nextEntry := 1 } }

/-- 6, worked example: the code is handed over with a TOKEN request. -/
theorem test_code_handed_over :
    (after .hostStop (submitted exampleDigits)).sto.held = some ⟨.credit, 5000, 42⟩ ∧
    (after .hostStop (submitted exampleDigits)).sto.waiting = some .token := by decide +kernel

/-- R103, R107, R17: a submission that a bus error ends is MALFORMED; in the address byte of a repeated START, which has ended the
submission, a bus error leaves the code its turn. -/
theorem test_bus_error_malformed :
    (after (.busError ⟨false, false⟩) (submitted exampleDigits)).dec.outcomes.map (·.outcome) = [.malformed] ∧
    (after (.busError ⟨true, true⟩) (submitted exampleDigits)).sto.held = some ⟨.credit, 5000, 42⟩ ∧
    (after (.busError ⟨true, true⟩) (submitted exampleDigits)).path.phase = .started := by decide +kernel

/-! ## Chapters 7 and 8 -/

/-- 7, worked sequence: the third failed attempt of an opening with a live load side and no current is BYPASS, with the not-confirmed
mark: detail 128 and reason CREDIT. -/
theorem test_bypass_example :
    let s := captured (moving .opening 3 .capture) 23040 2410
    let t := after .captureComplete { s with sw := { s.sw with reasons := { noReasons with credit := true } } }
    t.sw.relay = .opened ∧ t.tam.latches.bypass = .active ∧ t.sw.reasons = { noReasons with credit := true, tamper := true } ∧
    t.log.queue.map (fun e => (e.kind, e.detail)) = [(.tamperSet, 5), (.supplyOpened, 128)] := by decide +kernel

/-- R141, R142: the trip at stage 1 waits 60 s and raises the stage to 2. -/
theorem test_overload_trip :
    let t := after .overloadTrip { running with sw := { running.sw with overRun := 250, retry := 1 } }
    t.sw.limitDelay = 60 ∧ t.sw.retry = 2 ∧ t.sw.relay = .opening := by decide +kernel

/-- 8, worked sequence: the 50th block makes IMBALANCE ACTIVE and opens the supply. -/
theorem test_imbalance_example :
    let s := { running with
      win := { running.win with cal := { running.win.cal with tripMask := 8 } }
      tam := { running.tam with imbPresent := 50 } }
    let t := after .imbalanceChange s
    t.tam.imbPresent = 0 ∧ t.tam.latches.imbalance = .active ∧ t.sw.reasons.tamper = true ∧ t.sw.relay = .opening ∧
    t.log.queue.map (fun e => (e.kind, e.detail)) = [(.tamperSet, 3)] := by decide +kernel

/-! ## Chapters 9 to 11 -/

/-- An event record of a number. -/
def event (n : Nat) : EventRec := { number := BitVec.ofNat 32 n, kind := .tamperSet, detail := 0, cumulative := 0, credit := 0 }

/-- 9, worked sequence: record 40 leaves a full queue after two losses, and EVENTS_LOST (2) joins as record 48. -/
theorem test_lost_burst :
    let s := { working .logAppend .logNumberPoll with
      log := { running.log with
        head := 8, appendNo := 40, nextNo := 48, lost := 2, stage := .running, queue := (List.range' 40 8).map event } }
    let t := after .pollAck s
    t.log.head = 9 ∧ t.log.appendNo = 41 ∧ t.log.nextNo = 49 ∧ t.log.lost = 0 ∧
    t.log.queue.getLast?.map (fun e => (e.kind, e.detail, e.number)) = some (.eventsLost, 2, 48) := by decide +kernel

/-- 9, worked sequence: recovery stops at slot 0, with J = 2. -/
theorem test_recovery :
    let s := { working .startUpReads (.readRing 2) with
      log := { running.log with head := 14, appendNo := 52, recovering := true } }
    let t := after (.logSlotReadDone (read 16 (be 4 38 ++ be 1 1 ++ be 11 0))) s
    t.log.head = 0 ∧ t.log.appendNo = 54 ∧ t.log.nextNo = 54 ∧ t.path.run.map (·.stage) = some .restore := by decide +kernel

/-- 10, worked sequence: the warning cuts the host's read, makes the waiting COMMIT the URGENT COMMIT and queues POWER_DOWN. -/
theorem test_short_dip :
    let s := { hosted (.reading .nacked) none with sto := { running.sto with waiting := some .spend, stage := .queued } }
    let t := after .powerFailWarning { s with path := { s.path with jobs := [.commit] } }
    t.path.owner = .free ∧ t.path.phase = .cut ∧ t.sto.waiting = some .powerFail ∧ t.path.jobs = [.urgentCommit, .logAppend] ∧
    t.log.queue.map (·.kind) = [.powerDown] := by decide +kernel

/-- R183: IDENT's four bytes, least significant bit first; the first bits of 0x4D are 1, 0, 1, 1. -/
theorem test_ident : ((after .ident running).port.out.take 4, (after .ident running).port.out.length) =
    ([true, false, true, true], 32) := by decide +kernel

/-- 11, worked sequence: PAGE 1 on a sealed part is answered SEALED, and PORT is HELD. -/
theorem test_sealed_page :
    let t := after (.page 1 (Vector.replicate 128 0)) { running with port := { running.port with sealed := true } }
    t.port.last = .sealed ∧ t.tam.latches.port = .held := by decide +kernel

/-- R174: 1 ms is 33 periods, and one period above the threshold breaks it. -/
theorem test_warning_filter :
    let p := { running.sup with belowTime := 32 }
    (p.tick false).belowTime = 33 ∧ ms 1 = 33 ∧ (p.tick true).belowTime = 0 := by decide

/-- R180: RESTART in the middle of a host byte lets that byte end first. -/
theorem test_restart_waits_for_byte :
    let s := hosted .writing (some .openPage)
    let t := after .restart { s with pins := { s.pins with midByte := true } }
    let u := after (.hostWriteDataByte 7 true) t
    t.sup.phase = .running ∧ u.lines.seg = [.put 7, .stop] ∧ u.sup.phase = .starting ∧ u.path.phase = .refused ∧
    (after (.foreignByte 7 true) u).lines.hostAck = some false := by decide +kernel

/-- R185: a cold start ends the PAGE that was accepted while the RESTART waited, and the last result reads NONE. -/
theorem test_restart_ends_page :
    let s := hosted .writing (some .openPage)
    let t := after (.page 0 (Vector.replicate 128 0)) (after .restart { s with pins := { s.pins with midByte := true } })
    let u := after (.hostWriteDataByte 7 true) t
    t.port.pagePending = true ∧ t.port.last = .pending ∧ u.sup.phase = .starting ∧
    u.port.pagePending = false ∧ u.port.last = .noResult := by decide +kernel

/-- R182: eight edges after PSEL falls make a byte, and the instruction it names is taken at the eighth, with its reply behind the
status byte. -/
theorem test_frame_of_status :
    let edge := fun (b : Bool) (s : State) => after (.pclkRisingEdge b) s
    let s := after .pselFall running
    let t := edge false (edge false (edge false (edge false (edge false (edge false (edge true (edge false s)))))))
    t.port.bytes = [0x02] ∧ portDue t = none ∧ t.port.taken = true ∧ t.port.out.length = 8 := by decide +kernel

/-- R179: a cold start is isolated, with no account and the relay taken as OPEN until the record comes. -/
theorem test_coldStart :
    (after .coldStart running).path.causeStartUp = true ∧ (after .coldStart running).eng.account = false ∧
    (after .coldStart running).sw.relay = .opened ∧ (after .coldStart running).sup.phase = .starting := by decide +kernel

/-! ## Witnesses: for each statement with hypotheses, states and operands that meet those of each of its clauses

What a state owes between two commands is a conjunction, so that a witness is decided. -/

theorem quiet_iff (s : State) : s.Quiet ↔ s.sup.powered = true ∧ s.sto.ended = [] ∧ s.sup.holdDue = false ∧
    s.sup.restartDue = false ∧ s.path.cutPending = false ∧
    (s.path.owner = .host → s.path.jobs = [] ∨ s.path.holdTime < ms 50) :=
  ⟨fun h => ⟨h.1, h.2, h.3, h.4, h.5, h.6⟩, fun ⟨a, b, c, d, e, f⟩ => ⟨a, b, c, d, e, f⟩⟩

theorem settled_iff (s : State) : s.Settled ↔ s.Quiet ∧ (s.path.owner = .host → s.path.holdTime < ms 50) ∧
    s.sto.generationEnded = false :=
  ⟨fun h => ⟨h.1, h.2, h.3⟩, fun ⟨a, b, c⟩ => ⟨a, b, c⟩⟩

theorem caughtUp_iff (s : State) : s.CaughtUp ↔ (s.smp.capture = .running → s.smp.capCount < 64) ∧
    s.smp.hall.due (3, 48) = false ∧ s.smp.temp.due (8, 8) = false ∧ s.smp.loadv.due (5, 5) = false ∧
    s.smp.blockDue = false ∧ s.eng.winCount < 50 ∧ s.eng.spendDue = false ∧ s.sw.overRun < 250 ∧
    (s.sw.openPeriod = true → s.sw.relayFound = false → s.sw.ilRun < 50) ∧
    (if s.tam.imbalance then s.tam.imbAbsent < 50 else s.tam.imbPresent < 50) ∧
    (if s.tam.reverse then s.tam.revAbsent < 50 else s.tam.revPresent < 50) :=
  ⟨fun h => ⟨h.1, h.2, h.3, h.4, h.5, h.6, h.7, h.8, h.9, h.10, h.11⟩,
   fun ⟨a, b, c, d, e, f, g, h, i, j, k⟩ => ⟨a, b, c, d, e, f, g, h, i, j, k⟩⟩

theorem logsEvents_iff (s : State) : s.LogsEvents ↔ s.log.recovering = false ∧ s.log.ring.isSome = true ∧
    s.log.queue.length < 8 :=
  ⟨fun h => ⟨h.1, h.2, h.3⟩, fun ⟨a, b, c⟩ => ⟨a, b, c⟩⟩


/-- A part in another phase and step of its sequence. -/
def inPhase (phase : Phase) (step : SeqStep) : State := running.modSup fun p => { p with phase := phase, step := step }

theorem witness_TimePassesOnEmptyQueue :
    ((running.modSup fun p => { p with powered := false }).sup.powered = false ∧
      (running.modSup fun p => { p with powered := false }).pending = []) ∧
    (running.sup.powered = true ∧ running.pending = [] ∧ due running = []) ∧
    (running.modSmp fun m => { m with blockDue := true }).sup.powered = true ∧
    due (running.modSmp fun m => { m with blockDue := true }) ≠ [] := by
  decide +kernel

/-- The rail below its threshold for this many periods; and this many since the warning. -/
def below (n : Nat) : State := (running.modPins fun p => { p with railAbove := false }).modSup fun p => { p with belowTime := n }
def warnedAt (n : Nat) : State := running.modSup fun p => { p with phase := .warned, raised := true, timer := n }

/-- R38: 1, 20, 40, 50 and 100 ms in whole periods; R174, R176: the period that completes 1 ms below the threshold, and 40 ms in WARNED,
makes the warning and the hold entry due, and the period before it does not. -/
theorem test_periods :
    [ms 1, ms 20, ms 40, ms 50, ms 100] = [33, 656, 1311, 1639, 3277] ∧
    (due (below 32) = [] ∧ due (tick (below 32)) = [.powerFailWarning]) ∧
    due (warnedAt 1310) = [] ∧ due (tick (warnedAt 1310)) = [.holdEntryTimerEnd] := by decide +kernel

/-- A host transaction in a part that is isolated, and one whose mirror pointer is UNKNOWN. -/
def isolatedHost : State := (hosted .nacked none).modPath fun p => { p with causePower := true }
def unknownHost : State := (hosted (.wordHigh 1 true) none).modPath fun p => { p with mirror := none }

theorem witness_RefusedAddressByte :
    ((working .commit .commitRead).Quiet ∧ (working .commit .commitRead).path.owner = .own) ∧
    (isolatedHost.Quiet ∧ isolatedHost.path.isolated = true ∧ isolatedHost.path.owner = .host ∧
      isolatedHost.EndsNoSubmission) ∧
    ((running.modPath fun p => { p with mirror := none }).Quiet ∧ running.path.isolated = false ∧
      running.memoryClass 0x50 = true ∧ running.path.owner = .free ∧
      (running.modPath fun p => { p with mirror := none }).path.mirror = none) ∧
    (unknownHost.Quiet ∧ unknownHost.path.isolated = false ∧ unknownHost.memoryClass 0x50 = true ∧
      unknownHost.path.owner = .host ∧ unknownHost.path.endMirror = none ∧ unknownHost.EndsNoSubmission) := by
  simp only [quiet_iff, State.EndsNoSubmission]; decide +kernel

/-- A repeated START that ends a submission: in a part that is isolated, before a read with the pointer UNKNOWN, and carried. -/
def submitting (isolated : Bool) (mirror : Option Addr) : State := (submitted exampleDigits).modPath
  fun p => { p with causePower := isolated, mirror := mirror }

theorem witness_AddressBytes_endSubmission :
    ((submitting true none).Settled ∧ (submitting true none).path.isolated = true ∧ (submitting true none).path.owner = .host ∧
      ¬ (submitting true none).EndsNoSubmission ∧ (submitting true none).Quiet) ∧
    ((submitting false none).Settled ∧ (submitting false none).path.isolated = false ∧
      (submitting false none).memoryClass 0x50 = true ∧ (submitting false none).path.endMirror = none ∧
      ¬ (submitting false none).EndsNoSubmission) ∧
    ((submitting false (some 0xFF00)).Settled ∧ (submitting false (some 0xFF00)).path.isolated = false ∧
      ¬ ((submitting false (some 0xFF00)).memoryClass 0x50 = true ∧ Dir.read = .read ∧
        (submitting false (some 0xFF00)).path.endMirror = none) ∧ ¬ (submitting false (some 0xFF00)).EndsNoSubmission) := by
  simp only [settled_iff, quiet_iff, State.EndsNoSubmission]; and_intros <;> decide +kernel

/-- R103, R106: a repeated START, like a STOP, gives the submission its turn, and the address byte is carried. -/
theorem test_repeated_start_ends_submission :
    let t := after (.addressByte 0x50 .read true) (submitting false (some 0xFF00))
    t.sto.held = some ⟨.credit, 5000, 42⟩ ∧ t.path.phase = .reading .unread ∧ t.path.owner = .host := by decide +kernel

theorem witness_AddressByteIsCarried :
    (running.Quiet ∧ running.path.isolated = false ∧ running.path.owner = .free ∧
      ¬ (running.memoryClass 0x50 = true ∧ Dir.read = .read ∧ running.path.mirror = none)) ∧
    ((hosted .writing (some .page1)).Quiet ∧ (hosted .writing (some .page1)).path.isolated = false ∧
      (hosted .writing (some .page1)).path.owner = .host ∧ (hosted .writing (some .page1)).EndsNoSubmission ∧
      ¬ ((hosted .writing (some .page1)).memoryClass 0x22 = true ∧ Dir.read = .read ∧
        (hosted .writing (some .page1)).path.endMirror = none)) := by
  simp only [quiet_iff, State.EndsNoSubmission]; decide +kernel

/-- R1: with the straps 010 and the mask 001 the selects 0x52 and 0x53 are memory-class; 0x50 and 0x42 are not. -/
theorem test_select_mask :
    [0x52, 0x53, 0x50, 0x42].map (isMemoryClass 2 1) = [true, true, false, false] := by decide

theorem witness_WordAddressFixesWindow :
    ((hosted .addressed none).Quiet ∧ (hosted .addressed none).path.phase = .addressed) ∧
    ((hosted (.wordHigh 0xFF true) none).Quiet ∧
      (hosted (.wordHigh 0xFF true) none).path.phase = .wordHigh 0xFF true) ∧
    (2 ≤ 511 ∧ State.reset.win.configured = false) ∧
    (running.win.configured = true ∧ tableValid running.win.table = true ∧
      ⟨6, 16, .log⟩ ∈ running.win.table ∧ 6 ≤ 21 ∧ 21 < 6 + 16) ∧
    (2 ≤ 22 ∧ ∀ r ∈ running.win.table, ¬ (r.first ≤ 22 ∧ 22 < r.first + r.count)) := by
  simp only [quiet_iff]; decide +kernel

theorem witness_CarriedBytesAreForwarded :
    ((hosted .foreignWrite none).Quiet ∧ (hosted .foreignWrite none).path.phase = .foreignWrite) ∧
    ((hosted (.foreignRead .unread) none).Quiet ∧
      (hosted (.foreignRead .unread) none).path.phase = .foreignRead .unread) ∧
    ((hosted .pointerSet (some .openPage)).Quiet ∧ (hosted .pointerSet (some .openPage)).path.window = some .openPage ∧
      (hosted .pointerSet (some .openPage)).path.phase = .pointerSet) := by
  simp only [quiet_iff]; decide +kernel

theorem witness_GuardedPageByteIsRefused :
    ((hosted .writing (some .live)).Settled ∧ (hosted .writing (some .live)).path.window = some .live ∧
      Window.live ≠ .openPage ∧ Window.live ≠ .inbox ∧ (hosted .writing (some .live)).path.phase = .writing) ∧
    ((hosted .pointerSet (some .page0)).Settled ∧ (hosted .pointerSet (some .page0)).path.window = some .page0 ∧
      (hosted .pointerSet (some .page0)).path.phase = .pointerSet ∧
      (hosted .pointerSet (some .page0)).tam.loaded = true) ∧
    (((hosted .pointerSet (some .log)).modTam fun t => { t with loaded := false }).Settled ∧
      ((hosted .pointerSet (some .log)).modTam fun t => { t with loaded := false }).path.phase = .pointerSet) := by
  simp only [settled_iff, quiet_iff]; decide +kernel

theorem witness_OnlyOpenPagesTakeHostBytes :
    (hosted .pointerSet (some .openPage)).sup.powered = true ∧
    .put 7 ∈ (after (.hostWriteDataByte 7 true) (hosted .pointerSet (some .openPage))).lines.seg := by
  decide +kernel

theorem witness_ReadByteIsCarried :
    ((hosted (.reading .unread) none).Quiet ∧ (hosted (.reading .unread) none).path.phase = .reading .unread ∧
      (hosted (.reading .unread) none).path.mirror = some 0) ∧
    (((hosted (.reading .acked) none).modPath fun p => { p with mirror := some 0xFFFF }).Quiet ∧
      ((hosted (.reading .acked) none).modPath fun p => { p with mirror := some 0xFFFF }).path.mirror = some 0xFFFF ∧
      running.win.windowOf (0xFFFF / 128) = .live) ∧
    running.eng.winCount < 50 ∧ 50 ≤ (after .blockEnd (block 2000000000 1996000000)).eng.winCount ∧
    running.win.windowOf (0xFF00 / 128) = .inbox := by
  simp only [quiet_iff]; decide +kernel

theorem witness_StopOrBusErrorEndsTransaction_address :
    (submitted exampleDigits).Settled ∧ (submitted exampleDigits).path.owner = .host ∧
    ¬ (submitted exampleDigits).EndsNoSubmission := by
  simp only [settled_iff, quiet_iff, State.EndsNoSubmission]; decide +kernel

theorem witness_StopOrBusErrorEndsTransaction :
    ((hosted .writing (some .inbox)).Quiet ∧ (hosted .writing (some .inbox)).path.owner = .host ∧
      (hosted .writing (some .inbox)).EndsNoSubmission) ∧
    ((running.modPath fun p => { p with phase := .cut }).Quiet ∧
      (running.modPath fun p => { p with phase := .cut }).path.owner ≠ .host) := by
  simp only [quiet_iff, State.EndsNoSubmission]; decide +kernel

/-- A host read that a waiting job would cut. -/
def cutAsked (time : Nat) : State :=
  (hosted (.reading .acked) none).modPath fun p => { p with jobs := [.commit], holdTime := time }

/-- A submission of 18 digits in an INBOX write that a waiting job would cut. -/
def inboxAsked : State := (submitted exampleDigits).modPath fun p => { p with jobs := [.commit] }

theorem witness_HoldLimitCutsTransaction :
    ((hosted .nacked none).Quiet ∧ (hosted .nacked none).path.owner = .host ∧ (hosted .nacked none).path.jobs = []) ∧
    (((cutAsked (ms 50 - 1)).modPins fun p => { p with midByte := true }).Quiet ∧
      ((cutAsked (ms 50 - 1)).modPins fun p => { p with midByte := true }).pins.midByte = true) ∧
    ((cutAsked (ms 50 - 1)).Quiet ∧ (cutAsked (ms 50 - 1)).path.owner = .host ∧ (cutAsked (ms 50 - 1)).path.jobs ≠ [] ∧
      (cutAsked (ms 50 - 1)).pins.midByte = false ∧ (cutAsked (ms 50 - 1)).EndsNoSubmission) ∧
    ((running.modPath fun p => { p with phase := .cut }).Quiet ∧
      (running.modPath fun p => { p with phase := .cut }).path.phase = .cut) ∧
    (inboxAsked.Quiet ∧ inboxAsked.path.owner = .host ∧ inboxAsked.path.jobs ≠ [] ∧ inboxAsked.pins.midByte = false ∧
      inboxAsked.path.window = some .inbox ∧ inboxAsked.path.phase = .writing ∧ ¬ inboxAsked.EndsNoSubmission) ∧
    ((running.modPath fun p => { p with phase := .refused }).Quiet ∧
      (running.modPath fun p => { p with phase := .refused }).path.phase = .refused) := by
  simp only [quiet_iff, State.EndsNoSubmission]; and_intros <;> decide +kernel

/-- A state without its cut and its hold-limit time. -/
def uncut (s : State) : State := { s with path := { s.path with cutPending := false, holdTime := 0 } }

/-- A host transaction between bytes 50 ms after its START, in which a job joins at SPEND_THRESHOLD. -/
def joinedLate : State := ((hosted .nacked none).modEng fun e => { e with spend := 1000, spendDue := true }).modPath
  fun p => { p with holdTime := ms 50 }

/-- The same of a part that the warning has found in mid-byte. -/
def cutWarned (phase : UpPhase) : State :=
  ((hosted phase (some .openPage)).modPath fun p => { p with cutPending := true, causePower := true }).modSup
    fun p => { p with phase := .warned, raised := true }

/-- The second half's premises: the cut of the timer with a waiting job, of a job that joins, and of the warning, at each kind of byte. -/
theorem witness_HoldLimitCutsTransaction_atByteEnd :
    (∀ x, x ∈ [(cutAsked (ms 50), Instr.hostReadDataByte 7 true), (joinedLate, .spendThreshold),
        (cutWarned .foreignWrite, .foreignByte 7 true), (cutWarned (.wordHigh 1 true), .wordAddressByte 7 true),
        (cutWarned .writing, .hostWriteDataByte 7 true)] →
      x.1.path.owner = .host ∧ exec x.2 (uncut x.1) = .next (after x.2 (uncut x.1)) ∧
      (x.1.path.cutPending = true ∨ (ms 50 ≤ x.1.path.holdTime ∧ (after x.2 (uncut x.1)).path.jobs ≠ [])) ∧
      (uncut x.1).Settled ∧ (after x.2 (uncut x.1)).EndsNoSubmission) ∧
    (joinedLate.pins.midByte = false ∧ (after .spendThreshold (uncut joinedLate)).path.jobs ≠ []) ∧
    ((cutWarned .writing).sup.phase = .warned ∧ (cutWarned .writing).path.run = none) := by
  refine ⟨?_, by decide +kernel, by decide +kernel⟩
  simp only [List.forall_mem_cons, settled_iff, quiet_iff, State.EndsNoSubmission]
  and_intros <;> first | rfl | decide +kernel | simp

/-- The same submission, the STOP of its first byte not yet seen to end; and a part that owes the STOP of a clock fault. -/
def inboxStopping : State := (submitted exampleDigits).modPath fun p => { p with stopping := true }
def owing (s : State) : State := s.modPath fun p => { p with stopOwed := true }

theorem witness_MemoryClockFaultAbandons :
    (∀ s, s ∈ [running, (hosted .writing (some .openPage)), submitted exampleDigits] → (carrying (.address 0x50 .write) s).Quiet ∧
      (carrying (.address 0x50 .write) s).pins.carried = some (.address 0x50 .write) ∧
      (carrying (.address 0x50 .write) s).path.isolated = false ∧ (Dir.write ≠ .read)) ∧
    ((carrying (.address 0x50 .write) running).path.owner = .free ∧ (carrying (.address 0x50 .write) running).path.window = none ∧
      (carrying (.address 0x50 .write) (submitted exampleDigits)).path.owner = .host) ∧
    ((hosted .writing (some .openPage)).carriedAddress = none ∧ running.carriedAddress = none ∧
      (submitted exampleDigits).carriedAddress = none ∧ inboxStopping.carriedAddress = none) ∧
    ((hosted .writing (some .openPage)).Quiet ∧ (hosted .writing (some .openPage)).path.owner = .host ∧
      (hosted .writing (some .openPage)).path.segOpen = true ∧ (hosted .writing (some .openPage)).EndsNoSubmission) ∧
    ((working .logAppend .logBody).Quiet ∧ (working .logAppend .logBody).path.owner = .own ∧
      (working .logAppend .logBody).path.run.isSome = true) ∧
    (running.Quiet ∧ running.path.owner = .free) ∧
    ((submitted exampleDigits).Quiet ∧ (submitted exampleDigits).path.owner = .host ∧
      (submitted exampleDigits).path.segOpen = false ∧ (submitted exampleDigits).path.stopping = false) ∧
    (inboxStopping.Quiet ∧ inboxStopping.path.owner = .host ∧ inboxStopping.path.stopping = true ∧
      ¬ inboxStopping.EndsNoSubmission) ∧
    ((owing (waitingJob .logAppend)).Quiet ∧ (owing (waitingJob .logAppend)).path.stopOwed = true ∧
      (owing (waitingJob .logAppend)).path.owner = .free) ∧
    ((owing (working .logAppend .logBodyPoll)).Quiet ∧ (owing (working .logAppend .logBodyPoll)).path.owner = .own) := by
  simp only [List.forall_mem_cons, quiet_iff, State.EndsNoSubmission]
  and_intros <;> decide +kernel

theorem witness_MemoryClockFaultAbandons_owing :
    (owing (waitingJob .logAppend)).OneOwner ∧ (owing (working .logAppend .logBodyPoll)).OneOwner := by
  refine ⟨⟨?_, ?_, ?_, ?_⟩, ⟨?_, ?_, ?_, ?_⟩⟩ <;> decide +kernel

/-- A waiting START-UP READS at a cold start and at the hold-exit check, with a slot and without one. -/
def waitsForReads (phase : Phase) (step : SeqStep) (slot : Option Slot) : State :=
  ((inPhase phase step).modPath fun p => { p with jobs := [.restore, .startUpReads] }).modSto fun a => { a with slot := slot }

/-- Other jobs alone wait, before the hold-exit check has ended. -/
def checkWaits (step : SeqStep) : State :=
  (inPhase .resuming step).modPath fun p => { p with jobs := [.commit, .logAppend, .restore] }

theorem witness_GrantFollowsOrder :
    ((working .commit .commitRead).Quiet ∧ (working .commit .commitRead).path.owner ≠ .free) ∧
    ((carrying (.address 0x50 .write) (waitingJob .commit)).Quiet ∧
      (carrying (.address 0x50 .write) (waitingJob .commit)).carriedAddress.isSome ∧ (waitingJob .commit).path.owner = .free) ∧
    ((waitsForReads .held .noStep none).Quiet ∧ (waitsForReads .held .noStep none).sup.phase = .held) ∧
    (running.Quiet ∧ running.path.jobs = []) ∧
    (∀ step, step ∈ [SeqStep.exitLock, .exitCal, .exitCheck] → (checkWaits step).Quiet ∧ (checkWaits step).sup.step = step ∧
      JobKind.startUpReads ∉ (checkWaits step).path.jobs ∧ (checkWaits step).path.jobs ≠ []) ∧
    (∀ x, x = (Phase.starting, SeqStep.coldReads, none) ∨ x = (.resuming, .exitCheck, some Slot.b) ∨
        x = (.resuming, .exitLock, none) → (waitsForReads x.1 x.2.1 x.2.2).Quiet ∧
      (waitsForReads x.1 x.2.1 x.2.2).path.owner = .free ∧ (waitsForReads x.1 x.2.1 x.2.2).carriedAddress = none ∧
      (waitsForReads x.1 x.2.1 x.2.2).path.stopOwed = false ∧ (waitsForReads x.1 x.2.1 x.2.2).sup.phase = x.1 ∧
      x.1 ≠ .held ∧ (waitsForReads x.1 x.2.1 x.2.2).sto.slot = x.2.2 ∧
      JobKind.startUpReads ∈ (waitsForReads x.1 x.2.1 x.2.2).path.jobs ∧
      ∀ j ∈ (waitsForReads x.1 x.2.1 x.2.2).path.jobs,
        JobKind.startUpReads = j ∨ jobOrder.idxOf JobKind.startUpReads < jobOrder.idxOf j) ∧
    (∀ k, k = JobKind.pageWrite ∨ k = .logAppend ∨ k = .restore → (waitingJob k).Quiet ∧
      (waitingJob k).path.owner = .free ∧ (waitingJob k).carriedAddress = none ∧ (waitingJob k).path.stopOwed = false ∧
      (waitingJob k).sup.phase ≠ .held ∧ k ∈ (waitingJob k).path.jobs ∧
      (∀ j ∈ (waitingJob k).path.jobs, k = j ∨ jobOrder.idxOf k < jobOrder.idxOf j) ∧
      ¬ ((waitingJob k).sup.step = .exitLock ∨ (waitingJob k).sup.step = .exitCal ∨
        (waitingJob k).sup.step = .exitCheck)) := by
  simp only [quiet_iff]
  refine ⟨by decide +kernel, by decide +kernel, by decide +kernel, by decide +kernel, by decide +kernel, ?_, ?_⟩
  · rintro x (rfl | rfl | rfl) <;> decide +kernel
  · rintro k (rfl | rfl | rfl) <;> decide +kernel

/-- R90 (log entry 24): COMMIT_WRITE_DONE at the poll before attempt 2 puts the second write onto the memory segment, before the poll. -/
theorem test_second_write :
    (after (.commitWriteDone .acked) (working .commit .commitPrePoll)).lines.seg =
      [(running.own (.write (pageAddr (running.win.slotPage (working .commit .commitPrePoll).sto.target))
        (working .commit .commitPrePoll).sto.snapshotBytes)), running.own .poll] ∧
    (after (.commitWriteDone .acked) (working .commit .commitPrePoll)).path.run = some ⟨.commit, .commitPoll⟩ := by decide +kernel

theorem witness_JobTransactionsGoOn :
    (∀ x, x ∈ [(JobKind.commit, JobStage.commitPrePoll), (.commit, .commitWrite), (.commit, .commitPoll),
        (.urgentCommit, .commitRead), (.pageWrite, .pageWrite), (.pageWrite, .pagePoll), (.logAppend, .logBody),
        (.logAppend, .logBodyPoll), (.logAppend, .logNumber), (.logAppend, .logNumberPoll)] →
      (working x.1 x.2).Quiet ∧ (working x.1 x.2).path.run = some ⟨x.1, x.2⟩ ∧ (working x.1 x.2).sto.attempt = 1 ∧
      (working x.1 x.2).path.stopOwed = false ∧
      (working x.1 x.2).sup.step ≠ .exitDrain) ∧
    WriteResult.wordNack ≠ .acked ∧
    readBytes (read 64 []) ≠ some (working .urgentCommit .commitRead).sto.snapshotBytes := by
  simp only [quiet_iff]; decide +kernel

/-- The restore of a cold start's reads; that of an urgent commit that another POWERFAIL request follows; and that of a commit while the
Log Writer is in BACKOFF. -/
def coldRestoring (conv : Conv) : State :=
  ((working .startUpReads .restore).modSup fun p => { p with phase := .starting, step := .coldCalRestore }).modSmp
    fun m => { m with conv := conv }
def urgentAgain : State := ((working .urgentCommit .restore).modSup fun p => { p with phase := .warned, raised := true }).modSto
  fun a => { a with stage := .inFlight, waiting := some .powerFail }
def backedOff : State := (working .commit .restore).modLog fun l => { l with stage := .backoff, queue := [event 40] }

theorem witness_RestoreSetsPointers :
    (∀ k, k ∈ [JobKind.logAppend, .restore, .commit, .urgentCommit] → (working k .restore).Quiet ∧
      (working k .restore).path.owner = .own ∧ (working k .restore).path.stopOwed = false ∧
      (working k .restore).sup.phase ≠ .warned ∧ (working k .restore).path.run = some { kind := k, stage := .restore } ∧
      (working k .restore).sto.generationEnded = false) ∧
    (∀ conv, conv ∈ [Conv.calibrating, .calibrated] → (coldRestoring conv).Quiet ∧ (coldRestoring conv).path.owner = .own ∧
      (coldRestoring conv).path.run = some ⟨.startUpReads, .restore⟩ ∧ (coldRestoring conv).path.stopOwed = false ∧
      (coldRestoring conv).sup.step = .coldCalRestore ∧ (coldRestoring conv).smp.conv = conv ∧
      (coldRestoring conv).smp.capture = .idle ∧ (coldRestoring conv).sup.phase ≠ .held ∧ (coldRestoring conv).LogsEvents) ∧
    (urgentAgain.Quiet ∧ urgentAgain.sup.phase = .warned ∧ urgentAgain.sto.waiting = some .powerFail ∧
      urgentAgain.sto.generationEnded = false) ∧
    (backedOff.Quiet ∧ backedOff.log.stage = .backoff ∧ backedOff.log.queue ≠ []) := by
  simp only [quiet_iff, logsEvents_iff]; and_intros <;> decide +kernel

/-- R85: a verified copy of the last generation. -/
def lastGeneration : Option (List Byte) := some (be 1 0xA7 ++ be 4 4294967295)

/-- The restore of the commit that has brought the generation to its end, with a request and a code that wait. -/
def generationEnding : State := (((working .commit .restore).modSto fun a => { a with
  stage := .inFlight, verified := lastGeneration, waiting := some .token, held := some ⟨.credit, 5000, 42⟩ }).modPath
    fun p => { p with jobs := [.commit] }).modDec fun d => { d with
      places := [{ state := .active ⟨.credit, 5000, 42⟩, tag := 1, bytes := [], overLength := false, busError := false, entry := 0 }]
      outcomes := [{ entry := 0, tag := 1, outcome := .pending, kindSeq := none, detail := none }] }

theorem witness_RestoreSetsPointers_generationEnd :
    generationEnding.Quiet ∧ generationEnding.path.owner = .own ∧ generationEnding.path.stopOwed = false ∧
    generationEnding.path.run = some { kind := .commit, stage := .restore } ∧ generationEnding.sup.phase ≠ .warned ∧
    generationEnding.sto.generationEnded = true ∧ generationEnding.sto.waiting.isSome = true ∧
    generationEnding.sto.state ≠ .noAccount ∧ generationEnding.sto.held.isSome = true ∧
    generationEnding.dec.active.isSome = true := by
  simp only [quiet_iff]; and_intros <;> decide +kernel

/-- R85: the request that waits ends at the commit's restore, its job withdrawn and its code at STORE. -/
theorem test_generation_end :
    let t := after (.pointerRestoreEnd true) generationEnding
    t.sto.state = .storeFault ∧ t.path.jobs = [.logAppend] ∧ t.dec.outcomes.map (·.outcome) = [.store] ∧
    t.log.queue.map (fun e => (e.kind, e.detail.toNat)) = [(.commitFault, 4)] := by decide +kernel

/-- Bytes with their CRC (R189). -/
def withCrc (bs : List Byte) : List Byte := bs ++ be 2 (crc16 bs).toNat

/-- 2, worked example: page 0, with its five regions, mask 000 and 400 kHz. -/
def examplePage0 : List Byte := withCrc ([0xD7, 0x40, 0, 4, 5, 0, 2, 0, 2, 1, 0, 4, 0, 2, 2, 0, 6, 0, 16, 3, 1, 0xFE, 0, 1, 5,
  1, 0xFF, 0, 1, 4] ++ be 15 0)

/-- A page 1 that holds the default set (2.3). -/
def examplePage1 : List Byte := withCrc ([0xD7, 0xC1] ++ be 3 1800000 ++ be 3 1800000 ++ be 12 0 ++ be 2 5 ++ be 2 0 ++ [32] ++
  be 2 (toField 16 (-24000)) ++ be 2 24000 ++ be 2 20000 ++ be 2 16000 ++ be 2 2000 ++ be 2 40 ++ be 4 5000 ++ [0, 100] ++
  be 2 0x3FF)

/-- R22 to R25: both pages are valid. -/
theorem test_pages_valid :
    (validLayout examplePage0).map (·.table) = some running.win.table ∧
    validCalibration examplePage1 = some .default := by decide +kernel

/-- A cold start at a stage of its START-UP READS job. -/
def coldReading (stage : JobStage) (configured loaded : Bool) : State :=
  (((working .startUpReads stage).modSup fun p => { p with phase := .starting, step := .coldReads }).modWin
    fun w => { w with configured := configured }).modTam fun t => { t with loaded := loaded }

theorem witness_PagesDecideLayoutAndCalibration :
    (∀ x, x ∈ [(JobStage.readPage0, false, false), (.readPage0, false, true), (.readPage1, true, false),
        (.readPage1, false, false)] → (coldReading x.1 x.2.1 x.2.2).Settled ∧
      (coldReading x.1 x.2.1 x.2.2).path.owner = .own ∧
      (coldReading x.1 x.2.1 x.2.2).path.run = some ⟨.startUpReads, x.1⟩ ∧ (coldReading x.1 x.2.1 x.2.2).path.stopOwed = false ∧
      (coldReading x.1 x.2.1 x.2.2).win.configured = x.2.1 ∧ (coldReading x.1 x.2.1 x.2.2).tam.loaded = x.2.2) ∧
    ((readBytes (read 128 examplePage0)).bind validLayout).isSome = true ∧
    (readBytes (.wordNack : ReadResult 128)).bind validLayout = none ∧ readBytes (.wordNack : ReadResult 128) = none := by
  simp only [settled_iff, quiet_iff]; and_intros <;> decide +kernel

/-- A loop and a converter in these states, at a step of a sequence. -/
def sampling (loop : Loop) (conv : Conv) (phase : Phase) (step : SeqStep) : State :=
  (inPhase phase step).modSmp fun m => { m with loop := loop, conv := conv }

theorem witness_LockAndCalibrationGoOn :
    (running.Settled ∧ running.smp.loop ≠ .locking) ∧
    ((sampling .locking .uncalibrated .starting .coldClocks).Settled ∧
      (sampling .locking .uncalibrated .starting .coldClocks).smp.loop = .locking) ∧
    ((sampling .locked .calibrating .resuming .exitCal).Settled ∧
      (sampling .locked .calibrating .resuming .exitCal).smp.conv = .calibrating ∧
      (sampling .locked .calibrating .resuming .exitCal).sup.step = .exitCal) ∧
    ((sampling .locked .calibrating .starting .coldCalRestore).Settled ∧
      (sampling .locked .calibrating .starting .coldCalRestore).sup.restoreDone = false) ∧
    (((sampling .locked .calibrating .starting .coldCalRestore).modSup fun p => { p with restoreDone := true }).Settled ∧
      ((sampling .locked .calibrating .starting .coldCalRestore).modSup
        fun p => { p with restoreDone := true }).smp.capture = .idle ∧
      ((sampling .locked .calibrating .starting .coldCalRestore).modSup
        fun p => { p with restoreDone := true }).LogsEvents) := by
  simp only [settled_iff, quiet_iff, logsEvents_iff]; and_intros <;> decide +kernel

/-- An attempt whose capture runs, with this many slots taken. -/
def capturing (slots : Nat) : State :=
  (moving .closing 1 .capture).modSmp fun m => { m with capture := .running, capCount := slots }

/-- A block whose last frame has come, its BLOCK_END not taken. -/
theorem witness_LossOfLockDropsBlock_due :
    (block 2000000000 1996000000).Settled ∧ (block 2000000000 1996000000).smp.loop = .locked ∧
    (block 2000000000 1996000000).smp.conv = .calibrated ∧ ¬ (block 2000000000 1996000000).CaughtUp ∧
    (takeDue (block 2000000000 1996000000)).smp.loop = .locked ∧
    (takeDue (block 2000000000 1996000000)).smp.conv = .calibrated ∧ (takeDue (block 2000000000 1996000000)).CaughtUp := by
  simp only [settled_iff, quiet_iff, caughtUp_iff]; and_intros <;> decide +kernel

theorem witness_LossOfLockDropsBlock :
    ((sampling .locked .calibrating .starting .coldCalRestore).Settled ∧
      (sampling .locked .calibrating .starting .coldCalRestore).smp.loop = .locked ∧
      (sampling .locked .calibrating .starting .coldCalRestore).smp.conv ≠ .calibrated) ∧
    ((capturing 63).Settled ∧ (capturing 63).smp.loop = .locked ∧ (capturing 63).smp.conv = .calibrated ∧
      (capturing 63).CaughtUp ∧ (capturing 63).smp.capture = .running ∧
      (capturing 63).sw.op = some ⟨1, .capture, false, some .credit⟩ ∧ (capturing 63).sup.phase ≠ .held ∧
      (capturing 63).LogsEvents) ∧
    ((running.modSmp fun m => { m with capture := .waiting }).Settled ∧
      (running.modSmp fun m => { m with capture := .waiting }).CaughtUp) := by
  simp only [settled_iff, quiet_iff, caughtUp_iff, logsEvents_iff]; and_intros <;> decide +kernel

theorem witness_FrameIsTaken_due :
    (block 2000000000 1996000000).Quiet ∧ (block 2000000000 1996000000).smp.blockDue = true ∧
    (takeDue (block 2000000000 1996000000)).CaughtUp ∧ (takeDue (block 2000000000 1996000000)).smp.blockDue = false := by
  simp only [quiet_iff, caughtUp_iff]; and_intros <;> decide +kernel

theorem witness_FrameIsTaken :
    ((sampling .locking .calibrated .running .noStep).Quiet ∧
      (sampling .locking .calibrated .running .noStep).smp.loop ≠ .locked) ∧
    (∀ rot, rot ∈ [Monitor.hall, .temp, .loadv] →
      (running.modSmp fun m => { m with framePos := 63, rot := rot }).Quiet ∧
      (running.modSmp fun m => { m with framePos := 63, rot := rot }).smp.loop = .locked ∧
      (running.modSmp fun m => { m with framePos := 63, rot := rot }).smp.conv = .calibrated ∧
      (running.modSmp fun m => { m with framePos := 63, rot := rot }).CaughtUp) ∧
    ((capturing 63).Quiet ∧ (capturing 63).CaughtUp ∧ (capturing 63).smp.capture ≠ .idle) := by
  simp only [quiet_iff, caughtUp_iff]; and_intros <;> decide +kernel

/-- A monitor at these runs. -/
def monitored (m : Monitor) (active : Bool) (activeRun absentRun : Nat) : State :=
  running.modSmp fun p => p.setMonitor m { active := active, activeRun := activeRun, absentRun := absentRun }

theorem witness_MonitorChangesState :
    ((monitored .hall false 2 0).Settled ∧ 2 < 3) ∧
    ((monitored .hall false 3 0).Settled ∧ ((monitored .hall false 3 0).smp.monitor .hall).activeRun = 3 ∧
      (monitored .hall false 3 0).tam.loaded = true) ∧
    ((monitored .hall true 0 48).Settled ∧ ((monitored .hall true 0 48).smp.monitor .hall).absentRun = 48) ∧
    ((monitored .temp true 0 8).Settled ∧ ((monitored .temp true 0 8).smp.monitor .temp).absentRun = 8 ∧
      (monitored .temp true 0 8).sw.awaitRecord = false) ∧
    ((monitored .loadv false 5 0).Settled ∧ ((monitored .loadv false 5 0).smp.monitor .loadv).activeRun = 5 ∧
      (monitored .loadv false 5 0).sw.openPeriod = false) := by
  simp only [settled_iff, quiet_iff]; and_intros <;> decide +kernel

/-- A LOADV monitor about to change, in the open period of an OPEN relay. -/
def openMonitor (active found bypass : Bool) : State := (monitored .loadv active 5 5).modSw fun w => { w with
  relay := .opened, reasons := { noReasons with credit := true }, openPeriod := true, relayFound := found, bypass := bypass }

theorem witness_MonitorChangesState_openPeriod :
    ∀ x, x ∈ [(false, false, false), (false, true, false), (false, false, true), (true, false, true), (true, false, false)] →
      (openMonitor x.1 x.2.1 x.2.2).Settled ∧ (openMonitor x.1 x.2.1 x.2.2).smp.loadv = ⟨x.1, 5, 5⟩ ∧
      (openMonitor x.1 x.2.1 x.2.2).sw.openPeriod = true ∧ (openMonitor x.1 x.2.1 x.2.2).sw.relay = .opened ∧
      (openMonitor x.1 x.2.1 x.2.2).sw.relayFound = x.2.1 ∧ (openMonitor x.1 x.2.1 x.2.2).sw.bypass = x.2.2 := by
  simp only [settled_iff, quiet_iff]; decide +kernel

theorem witness_ZeroCrossingFilterMoves :
    ∀ zc, zc ∈ [ZcFilter.unsettled, .low, .high] → (running.modSmp fun m => { m with zc := zc }).Quiet ∧
      (running.modSmp fun m => { m with zc := zc }).smp.loop = .locked ∧
      (running.modSmp fun m => { m with zc := zc }).smp.zc = zc := by
  simp only [quiet_iff]; decide +kernel

theorem witness_BlockEndCharges :
    ((block 2000000000 1996000000).Settled ∧ (block 2000000000 1996000000).smp.blockDue = true ∧
      (block 2000000000 1996000000).eng.account = true) ∧
    (((block 0 0).modEng fun e => { e with account := false }).Settled ∧
      ((block 0 0).modEng fun e => { e with account := false }).smp.blockDue = true) := by
  simp only [settled_iff, quiet_iff]; and_intros <;> decide +kernel

/-- A block of an OPEN supply in its open period, with the sum that is just enough for IL (R136). -/
def openBlock : State := ((block 0 0).modSw fun w => { w with
  relay := .opened, reasons := { noReasons with credit := true }, openPeriod := true, ilRun := 49 }).modSmp
    fun m => { m with ilSum := 102400 }

/-- Blocks at an overload run; one that uses up the credit; and one of emergency credit at its end, at a kWh boundary with a pending
rate. -/
def overBlock (run : Nat) : State := (block 2000000000 1996000000).modSw fun w => { w with overRun := run }
def spentBlock (sl : Int) (run : Nat) : State := ((block sl 0).modEng fun e => { e with credit := 1, charge := 1000000 }).modSw
  fun w => { w with overRun := run }
def lateBlock : State := (block 2000000000 1996000000).modEng fun e => { e with
  credit := -19999, ec := .inUse, charge := 3000000, spend := 998, cumulative := 999988, pendingRate := some 2100 }

theorem witness_BlockEndIsHandedOut :
    ((block 2000000000 1996000000).Settled ∧ (block 2000000000 1996000000).smp.blockDue = true ∧
      (block 2000000000 1996000000).sw.relay = .closed ∧ (block 2000000000 1996000000).sw.held = false ∧
      (block 2000000000 1996000000).eng.pendingLimit = none ∧
      (after .blockEnd (block 2000000000 1996000000)).sw.relay = .closed) ∧
    (((block 1 1).modEng fun e => { e with pendingLimit := some 0 }).Settled ∧
      ((block 1 1).modEng fun e => { e with pendingLimit := some 0 }).eng.pendingLimit.isSome = true) ∧
    (openBlock.Settled ∧ openBlock.smp.blockDue = true ∧ openBlock.sw.openPeriod = true ∧
      (after .blockEnd openBlock).sw.openPeriod = true ∧ (after .blockEnd openBlock).sw.ilRun = 50) ∧
    ((spentBlock 0 0).Settled ∧ (spentBlock 0 0).smp.blockDue = true ∧ (spentBlock 0 0).sw.awaitRecord = false ∧
      (spentBlock 0 0).eng.repCredit = false ∧ (after .blockEnd (spentBlock 0 0)).eng.repCredit = true ∧
      (spentBlock 0 0).sw.reasons.credit = false ∧ (spentBlock 0 0).sw.op = none ∧
      (after .blockEnd (spentBlock 0 0)).eng.lowFlag ≠ (spentBlock 0 0).eng.repLow) ∧
    (∀ s, s ∈ [spentBlock 2000000000 249, (overBlock 249).modEng fun e => { e with pendingLimit := some 0 }, overBlock 249] →
      s.Settled ∧ s.smp.blockDue = true ∧ s.sw.relay = .closed ∧ s.sw.held = false ∧ s.sw.overRun + 1 = 250 ∧
      0 < s.eng.limit ∧ s.eng.limit * 2 ^ 48 < s.eng.sl.natAbs * s.win.cal.gl * 180) ∧
    (lateBlock.Settled ∧ lateBlock.eng.pendingRate.isSome = true ∧ lateBlock.log.queue.length < 7 ∧ lateBlock.eng.ec = .inUse ∧
      (after .blockEnd lateBlock).eng.ec = .spent ∧ (after .blockEnd lateBlock).eng.cumulative = 1000000 ∧
      lateBlock.eng.spend < 1000 ∧ 1000 ≤ (after .blockEnd lateBlock).eng.spend) := by
  simp only [List.forall_mem_cons, settled_iff, quiet_iff]; and_intros <;> decide +kernel

/-- Spend-since-commit has reached 1,000, with this request waiting and this account state. -/
def spent (state : AccountState) (waiting : Option Trigger) : State :=
  (running.modEng fun e => { e with spend := 1000, spendDue := true }).modSto
    fun a => { a with state := state, waiting := waiting }

theorem witness_SpendAndPowerAreTaken :
    ((spent .loaded none).Settled ∧ (spent .loaded none).eng.spendDue = true ∧
      (spent .loaded none).sto.state ≠ .noAccount ∧ (spent .loaded none).sto.waiting = none) ∧
    ((spent .loaded (some .spend)).Settled ∧ (spent .loaded (some .spend)).eng.spendDue = true ∧
      (spent .loaded (some .spend)).sto.waiting ≠ none) ∧
    ((spent .noAccount none).Settled ∧ (spent .noAccount none).sto.state = .noAccount) ∧
    ((running.modEng fun e => { e with winCount := 50 }).Settled ∧
      50 ≤ (running.modEng fun e => { e with winCount := 50 }).eng.winCount) ∧
    (running.modEng fun e => { e with winCount := 49 }).Settled := by
  simp only [settled_iff, quiet_iff]; and_intros <;> decide +kernel

/-- At the end of the generations: spend-since-commit has reached 1,000 with a code handed over. -/
def endedGenerations : State := ((spent .loaded none).modSto fun a => { a with
  verified := lastGeneration, held := some ⟨.credit, 5000, 42⟩ }).modDec fun d => { d with
    places := [{ state := .active ⟨.credit, 5000, 42⟩, tag := 1, bytes := [], overLength := false, busError := false, entry := 0 }] }

theorem witness_SpendAndPowerAreTaken_generationEnd :
    endedGenerations.Quiet ∧ endedGenerations.sto.generationEnded = true ∧ endedGenerations.eng.spendDue = true ∧
    endedGenerations.sto.state = .loaded ∧ endedGenerations.path.owner ≠ .host ∧ endedGenerations.sup.raised = false ∧
    endedGenerations.sup.phase = .running ∧ endedGenerations.sw.awaitRecord = false ∧ endedGenerations.LogsEvents ∧
    endedGenerations.sto.held.isSome = true ∧ endedGenerations.dec.active.isSome = true := by
  simp only [quiet_iff, logsEvents_iff]; and_intros <;> decide +kernel

/-- A record at the edges of its ranges. -/
def exampleRecord : Record where
  generation := 4294967294
  credit := -20000
  shortfall := 3
  fine := 281474976710655
  cumulative := 281474976710655
  rate := 99999999
  relayClosed := true
  armed := false
  retry := 4
  pendingRate := some 1
  ec := .spent
  pendingAllow := some 0
  limit := 65000
  allow := 20000
  high := 99999
  reasons := { Reasons.cold with limit := true }
  head := 511
  used := 0x8000000000000001
  latches := { Latches.cold with caseOpen := .active, path := .held }
  charge := 999999
  appendNo := 0xFFFFFFFF

theorem witness_RecordIsReadAsWritten : exampleRecord.Fits :=
  ⟨by decide, by decide, by decide, by decide, by decide, by decide, by decide +kernel, by decide +kernel⟩

theorem witness_GrantedCommitTakesSnapshot :
    ∀ k, k ∈ [JobKind.commit, .urgentCommit] →
      (waitingJob k).Quiet ∧ (k = .commit ∨ k = .urgentCommit) ∧ nextJob (waitingJob k) = some k ∧
      (waitingJob k).path.stopOwed = false := by
  simp only [quiet_iff]; decide +kernel

/-- A condition that becomes present just as the grant of a COMMIT job is due. -/
def meeting : State := (waitingJob .commit).modSto fun a => { a with stage := .queued, waiting := some .spend }

theorem witness_GrantedCommitTakesSnapshot_further :
    let t := after (.switchInputFilterSettle .caseSwitch true) meeting
    t.Quiet ∧ t.sto.further = true ∧ t.sto.generationEnded = false ∧ t.sto.state ≠ .noAccount ∧
    nextJob t = some .commit ∧ t.path.stopOwed = false := by
  simp only [quiet_iff]; and_intros <;> decide +kernel

/-- R162: the condition comes before the grant: the snapshot carries the move, and a further commit waits behind it. -/
theorem test_further_commit :
    let t := after .jobGrant (after (.switchInputFilterSettle .caseSwitch true) meeting)
    t.sto.snapshot.map (·.latches.caseOpen) = some .active ∧ t.sto.inTrigger = some .latch ∧ t.sto.waiting = some .latch ∧
    t.path.run = some ⟨.commit, .commitWrite⟩ ∧ .commit ∈ t.path.jobs ∧ t.sto.further = false := by decide +kernel

theorem witness_CarriedChangeOnSnapshot :
    (∀ kind, kind ∈ [CodeKind.credit, .rate, .limit, .clear, .allowance] →
      (exampleRecord.applyChange ⟨kind, 1023, 99999⟩).high = 99999) ∧
    (exampleRecord.applyChange ⟨.credit, 4000, 1⟩).ec = .available ∧
    (exampleRecord.applyChange ⟨.credit, 3999, 1⟩).ec = .spent ∧
    (exampleRecord.applyChange ⟨.clear, 0x200, 1⟩).latches.path = .clear ∧
    (exampleRecord.applyChange ⟨.clear, 1, 1⟩).latches.caseOpen = .active := by
  decide +kernel

/-- R112 at its edges: each judgement, and the numbers that stay in the set and leave it. -/
theorem witness_SequenceNumbersAreUsedOnce :
    judgeSeq 99999 0 99999 = .old ∧ judgeSeq 64 1 0 = .old ∧ judgeSeq 64 1 65 = .fresh ∧ judgeSeq 64 1 64 = .used ∧
    judgeSeq 64 1 1 = .fresh ∧ judgeSeq 65 1 1 = .old ∧ 64 < 1 + 64 ∧
    inUsedSet 64 0x8000000000000001 1 ∧ ¬ inUsedSet (joinSeq 64 0x8000000000000001 65).1 (joinSeq 64 0x8000000000000001 65).2 1 := by
  simp only [inUsedSet]; and_intros <;> decide +kernel

/-- The read-back of a commit whose snapshot is the example's, at an attempt, with a carried change and its code ACTIVE. -/
def readingBack (attempt : Nat) (carried : Option Change) : State :=
  ((working .commit .commitRead).modSto fun a => { a with
    stage := .inFlight, attempt := attempt, snapshot := some exampleRecord, inTrigger := some .token, carried := carried }).modDec
      fun d => { d with
        places := carried.toList.map fun c =>
          { state := .active c, tag := 0x21, bytes := [], overLength := false, busError := false, entry := 0 }
        outcomes := [{ entry := 0, tag := 0x21, outcome := .pending, kindSeq := none, detail := none }]
        nextEntry := 1 }

theorem witness_CommitSucceeds :
    ∀ c, c ∈ [none, some (⟨.credit, 5000, 42⟩ : Change), some ⟨.rate, 2100, 43⟩, some ⟨.limit, 0, 44⟩,
        some ⟨.allowance, 2000, 45⟩, some ⟨.clear, 0x200, 46⟩] →
      (readingBack 1 c).Settled ∧ (readingBack 1 c).path.owner = .own ∧ (readingBack 1 c).path.stopOwed = false ∧
      (readingBack 1 c).path.run = some ⟨.commit, .commitRead⟩ ∧ (readingBack 1 c).sto.snapshot = some exampleRecord ∧
      readBytes (read 64 exampleRecord.encode) = some exampleRecord.encode ∧
      generationOf exampleRecord.encode ≠ 4294967295 ∧ (readingBack 1 c).sto.carried = c ∧
      (readingBack 1 c).dec.active.map (·.2) = c := by
  simp only [settled_iff, quiet_iff]; decide +kernel

/-- A CLEAR of CASE and PATH, CASE being ACTIVE and PATH HELD. -/
def clearing : State := (readingBack 1 (some ⟨.clear, 0x201, 46⟩)).modTam
  fun t => { t with latches := { Latches.cold with caseOpen := .active, path := .held }, tripReported := true }

theorem witness_CommitSucceeds_clear :
    clearing.Settled ∧ clearing.path.run = some ⟨.commit, .commitRead⟩ ∧ clearing.sto.snapshot = some exampleRecord ∧
    clearing.sto.carried = some ⟨.clear, 0x201, 46⟩ ∧ clearing.dec.active.map (·.2) = some ⟨.clear, 0x201, 46⟩ ∧
    clearing.LogsEvents ∧ clearing.sw.relay = .closed ∧
    (readingBack 1 (some ⟨.clear, 0x200, 46⟩)).dec.active.map (·.2.kind) = some .clear ∧
    ((clearing.modSto fun a => { a with state := .storeFault }).Settled ∧
      (clearing.modSto fun a => { a with state := .storeFault }).sw.awaitRecord = false) := by
  simp only [settled_iff, quiet_iff, logsEvents_iff]; and_intros <;> decide +kernel

/-- R117, R118, R161: the CLEAR is PARTIAL, with CASE as its detail; PATH is CLEAR, and TOKEN_ACCEPTED comes last. -/
theorem test_partial_clear :
    let t := after (.commitReadbackDone (read 64 exampleRecord.encode)) clearing
    t.dec.outcomes.map (fun o => (o.outcome, o.detail)) = [(.partialDone, some 0x001)] ∧
    t.tam.latches = { Latches.cold with caseOpen := .active } ∧
    t.log.queue.map (fun e => (e.kind, e.detail.toNat)) = [(.tamperCleared, 9), (.tokenAccepted, 4)] := by decide +kernel

/-- The job that holds the segment, at another stage. -/
def atStage (stage : JobStage) (s : State) : State :=
  s.modPath fun p => { p with run := p.run.map fun r => { r with stage := stage } }

theorem witness_CommitFails :
    (∀ x, x ∈ [JobStage.commitPrePoll, .commitWrite, .commitPoll] →
      (atStage x (readingBack 2 none)).Settled ∧ (atStage x (readingBack 2 none)).path.owner = .own ∧
      (atStage x (readingBack 2 none)).path.run = some ⟨.commit, x⟩ ∧ (atStage x (readingBack 2 none)).path.stopOwed = false ∧
      (atStage x (readingBack 2 none)).sto.attempt ≠ 1 ∧ WriteResult.dataNack ≠ .acked) ∧
    ∀ c, c ∈ [none, some (⟨.credit, 5000, 42⟩ : Change)] →
      (readingBack 2 c).Settled ∧ (readingBack 2 c).path.owner = .own ∧ (readingBack 2 c).path.stopOwed = false ∧
      (readingBack 2 c).path.run = some ⟨.commit, .commitRead⟩ ∧
      readBytes (.selectNack : ReadResult 64) ≠ some (readingBack 2 c).sto.snapshotBytes ∧
      (readingBack 2 c).sto.attempt ≠ 1 ∧ (readingBack 2 c).sto.state = .loaded ∧
      (readingBack 2 c).sw.awaitRecord = false ∧ (readingBack 2 c).LogsEvents ∧ (readingBack 2 c).sto.carried = c ∧
      (readingBack 2 c).dec.active.map (·.2) = c := by
  simp only [settled_iff, quiet_iff, logsEvents_iff]; decide +kernel

theorem witness_NewerValidSlotIsLoaded :
    (∀ stage, stage ∈ [JobStage.readSlotA, .readSlotB] →
      (coldReading stage true true).Settled ∧ (coldReading stage true true).path.owner = .own ∧
      (coldReading stage true true).path.stopOwed = false ∧
      (coldReading stage true true).path.run = some ⟨.startUpReads, stage⟩) ∧
    ((coldReading .readSlotB true false).Settled ∧ (coldReading .readSlotB true false).tam.loaded = false ∧
      ((coldReading .readSlotB true false).modSto fun a => { a with slotA := some exampleRecord.encode }).Settled) ∧
    (readBytes (read 64 exampleRecord.encode)).bind readRecord = some exampleRecord ∧
    exampleRecord.generation < 4294967295 ∧
    (readBytes (read 64 [0xA7])).bind readRecord = none ∧
    (readBytes (.wordNack : ReadResult 64)).bind readRecord = none := by
  simp only [settled_iff, quiet_iff]; and_intros <;> decide +kernel

/-- A cold start whose pages are those of the example: slot A is read next, and then slot B. -/
def awaiting : State := after (.page1ReadDone (read 128 examplePage1)) (after (.page0ReadDone (read 128 examplePage0))
  { State.reset with
    path := { State.reset.path with owner := .own, run := some ⟨.startUpReads, .readPage0⟩ }
    sup := { State.reset.sup with raised := false, step := .coldReads } })

theorem witness_NewerValidSlotIsLoaded_coldStart :
    awaiting.Settled ∧ awaiting.AwaitsRecord ∧ awaiting.path.owner = .own ∧ awaiting.path.stopOwed = false ∧
    awaiting.path.run = some ⟨.startUpReads, .readSlotA⟩ ∧ awaiting.tam.loaded = false ∧ awaiting.log.recovering = true ∧
    awaiting.log.queue.length < 8 ∧ awaiting.log.ring = some ⟨6, 16⟩ ∧
    (after (.slotSelection .wordNack none) awaiting).path.run = some ⟨.startUpReads, .readSlotB⟩ := by
  refine ⟨?_, ⟨?_, ?_, ?_, ?_, ?_, ?_⟩, ?_⟩
  · simp only [settled_iff, quiet_iff]; decide +kernel
  all_goals decide +kernel

/-- R144, R150: of the example's record, CASE is taken as HELD, LIMIT gets the delay of stage 4, and C at -A is the credit condition. -/
theorem test_record_is_handed_out :
    let t := after (.slotSelection (read 64 exampleRecord.encode) (some .wordNack)) awaiting
    t.tam.latches = { Latches.cold with caseOpen := .held, memory := .held, path := .held } ∧ t.sw.relay = .closed ∧
    t.sw.retry = 4 ∧ t.sw.limitDelay = 480 ∧ t.sw.reasons = { noReasons with credit := true, limit := true, tamper := true } ∧
    t.log.head = 127 := by decide +kernel

/-- R97, R144: with no valid slot the account is VOID, the relay OPEN and the supply DISARMED. -/
theorem test_void_rebuild :
    let t := after (.slotSelection .wordNack (some .wordNack)) awaiting
    t.sto.state = .void ∧ t.tam.latches = { Latches.cold with memory := .held } ∧ t.sw.relay = .opened ∧ t.sw.armed = false ∧
    t.sw.reasons = { noReasons with unset := true, credit := true, tamper := true } ∧ t.sto.waiting = some .void ∧
    t.log.queue.map (·.kind) = [.accountVoid] := by decide +kernel

/-- A hold-exit check, with the verified copy of the example. -/
def checking : State := ((working .startUpReads .holdCheck).modSto fun a => { a with
  slot := some .b, verified := some exampleRecord.encode }).modSup fun p => { p with phase := .resuming, step := .exitCheck }

theorem witness_HoldExitCheckCompares :
    checking.Settled ∧ checking.path.owner = .own ∧ checking.path.stopOwed = false ∧ checking.path.run = some ⟨.startUpReads, .holdCheck⟩ ∧
    readBytes (read 64 exampleRecord.encode) ≠ none ∧ readBytes (read 64 exampleRecord.encode) = checking.sto.verified ∧
    readBytes (read 64 [0xA7]) ≠ checking.sto.verified ∧ readBytes (.selectNack : ReadResult 64) = none ∧
    checking.tam.loaded = true ∧ checking.sto.state ≠ .noAccount := by
  simp only [settled_iff, quiet_iff]; and_intros <;> decide +kernel

/-- The first byte of an INBOX write at an offset, with these places taken. -/
def inboxFirst (wordAddr : Addr) (places : List Submission) : State :=
  ((hosted .pointerSet (some .inbox)).modPath fun p => { p with wordAddr := wordAddr }).modDec
    fun d => { d with places := places }

theorem witness_InboxBytesMakeSubmission :
    ((inboxFirst 0xFF00 []).Quiet ∧ (inboxFirst 0xFF00 []).path.window = some .inbox ∧
      (inboxFirst 0xFF00 []).path.phase = .pointerSet ∧ (0xFF00 : Addr).toNat % 128 = 0 ∧
      (inboxFirst 0xFF00 []).dec.places.length < 2) ∧
    ((inboxFirst 0xFF01 []).Quiet ∧ (0xFF01 : Addr).toNat % 128 ≠ 0) ∧
    ((inboxFirst 0xFF00 ((submitted []).dec.places ++ (submitted []).dec.places)).Quiet ∧
      2 ≤ (inboxFirst 0xFF00 ((submitted []).dec.places ++ (submitted []).dec.places)).dec.places.length) ∧
    (((hosted .writing (some .inbox)).modDec fun d => { d with refused := true }).Quiet ∧
      ((hosted .writing (some .inbox)).modDec fun d => { d with refused := true }).path.phase = .writing) ∧
    ((submitted exampleDigits).Quiet ∧ (submitted exampleDigits).dec.refused = false ∧
      (submitted exampleDigits).dec.filling = (submitted exampleDigits).dec.places.head?) ∧
    (submitted (exampleDigits.drop 1)).Quiet := by
  simp only [quiet_iff]; and_intros <;> decide +kernel

theorem witness_SubmissionHasItsTurn :
    (submitted exampleDigits).Settled ∧ (submitted exampleDigits).path.owner = .host ∧
    (submitted exampleDigits).path.window = some .inbox ∧ (submitted exampleDigits).path.memClass = true ∧
    (submitted exampleDigits).dec.places.map (fun p => (p.state, p.bytes.length)) = [(.filling, 18)] ∧
    (submitted (exampleDigits.drop 1)).dec.places.map (fun p => (p.state, p.bytes.length)) = [(.filling, 17)] ∧
    (submitted exampleDigits).dec.key = some exampleKey ∧ CodeKind.ofDigit 1 = some .credit ∧
    judgeSeq (submitted exampleDigits).sto.high (submitted exampleDigits).sto.used 42 = .fresh ∧
    CodeKind.credit.valueOk 5000 = true ∧ ¬ 999999999 < (submitted exampleDigits).eng.credit + 5000 * 10 ∧
    (submitted exampleDigits).sto.state ≠ .noAccount := by
  simp only [settled_iff, quiet_iff]; and_intros <;> decide +kernel

/-- The example's code submitted while another code is ACTIVE; and the read-back of that code's commit once it is READY. -/
def secondPlace (state : PlaceState) (s : State) : State := s.modDec fun d => { d with
  key := some exampleKey
  places := [
    { state := .active ⟨.limit, 2500, 41⟩, tag := 0x20, bytes := [], overLength := false, busError := false, entry := 0 },
    { state := state, tag := 0x21, bytes := exampleDigits.map fun d => BitVec.ofNat 8 (0x30 + d)
      overLength := false, busError := false, entry := 1 }]
  outcomes := [{ entry := 1, tag := 0x21, outcome := .pending, kindSeq := none, detail := none },
    { entry := 0, tag := 0x20, outcome := .pending, kindSeq := none, detail := none }] }
def secondReady (attempt high : Nat) : State := (secondPlace .ready (working .commit .commitRead)).modSto fun a => { a with
  stage := .inFlight, attempt := attempt, snapshot := some { exampleRecord with high := high, used := 1 }
  inTrigger := some .token, carried := some ⟨.limit, 2500, 41⟩ }

theorem witness_SubmissionHasItsTurn_second :
    ((secondPlace .filling (submitted exampleDigits)).Settled ∧
      (secondPlace .filling (submitted exampleDigits)).path.owner = .host ∧
      (secondPlace .filling (submitted exampleDigits)).path.window = some .inbox ∧
      (secondPlace .filling (submitted exampleDigits)).path.memClass = true) ∧
    (∀ x, x ∈ [(1, 41), (2, 42)] → (secondReady x.1 x.2).Settled ∧ (secondReady x.1 x.2).path.owner = .own ∧
      (secondReady x.1 x.2).path.run = some ⟨.commit, .commitRead⟩ ∧ (secondReady x.1 x.2).path.stopOwed = false ∧
      (secondReady x.1 x.2).sto.carried = some ⟨.limit, 2500, 41⟩ ∧ (secondReady x.1 x.2).sto.held = none ∧
      (secondReady x.1 x.2).dec.places.map (·.entry) = [0, 1] ∧
      (readBytes (read 64 (secondReady x.1 x.2).sto.snapshotBytes) = some (secondReady x.1 x.2).sto.snapshotBytes ∧
        generationOf (secondReady x.1 x.2).sto.snapshotBytes ≠ 4294967295)) ∧
    (readBytes (.wordNack : ReadResult 64) ≠ some (secondReady 2 42).sto.snapshotBytes ∧ (secondReady 2 42).sto.attempt ≠ 1) := by
  simp only [settled_iff, quiet_iff]; and_intros <;> decide +kernel

/-- The same commit at attempt 2, in its poll, its write and its second poll. -/
theorem witness_SubmissionHasItsTurn_failed :
    ∀ x, x ∈ [JobStage.commitPrePoll, .commitWrite, .commitPoll, .commitRead] →
      (atStage x (secondReady 2 41)).Settled ∧ (atStage x (secondReady 2 41)).path.owner = .own ∧
      (atStage x (secondReady 2 41)).path.run = some ⟨.commit, x⟩ ∧ (atStage x (secondReady 2 41)).path.stopOwed = false ∧
      (atStage x (secondReady 2 41)).sto.carried = some ⟨.limit, 2500, 41⟩ ∧ (atStage x (secondReady 2 41)).sto.held = none ∧
      (atStage x (secondReady 2 41)).sto.snapshot.isSome = true ∧ (atStage x (secondReady 2 41)).sto.attempt ≠ 1 ∧
      (atStage x (secondReady 2 41)).dec.places.map (·.entry) = [0, 1] ∧ WriteResult.wordNack ≠ .acked := by
  simp only [settled_iff, quiet_iff]; decide +kernel

/-- R119: the commit has failed by its poll limit, and the submission that waits has its turn. -/
theorem test_turn_after_failed_poll :
    (after .pollTimeout (atStage .commitPoll (secondReady 2 41))).sto.held = some ⟨.credit, 5000, 42⟩ ∧
    (after .pollTimeout (atStage .commitPoll (secondReady 2 41))).dec.outcomes.map (·.outcome) = [.pending, .store] := by decide +kernel

/-- R106, R117: at the success of the first code's commit the second has its turn, against the new code history: fresh beside 41, USED
beside 42. -/
theorem test_second_submission :
    let done := fun (high : Nat) =>
      after (.commitReadbackDone (read 64 (secondReady 1 high).sto.snapshotBytes)) (secondReady 1 high)
    (done 41).sto.held = some ⟨.credit, 5000, 42⟩ ∧ (done 41).dec.places.map (·.entry) = [1] ∧
    (done 42).dec.outcomes.map (·.outcome) = [.used, .accepted] ∧ (done 42).dec.places = [] := by decide +kernel

theorem witness_SingleWrongDigitFailsCheck :
    exampleKey.WellFormed ∧ isCode exampleDigits ∧ exampleDigits.getD 0 0 ≠ 0 ∧ exampleDigits.getD 17 0 ≠ 9 ∧
    (codeFields (unscramble exampleKey exampleDigits)).passes exampleKey = true :=
  ⟨⟨by decide +kernel, by decide +kernel, by decide, by decide⟩, by unfold isCode; decide +kernel⟩

theorem witness_AttemptGoesOn :
    (∀ step, step ∈ [OpStep.crossingWait 40, .delay 0, .pulse 0, .settle 0, .retry] →
      (moving .opening 1 step).Quiet ∧ (moving .opening 1 step).sw.op = some ⟨1, step, false, some .credit⟩ ∧
      (moving .opening 1 step).sw.relay ≠ .closing) ∧
    (((moving .closing 1 (.delay 0)).modSw fun w => { w with reasons := { noReasons with credit := true } }).Quiet ∧
      ((moving .closing 1 (.delay 0)).modSw
        fun w => { w with reasons := { noReasons with credit := true } }).sw.reasons.isEmpty = false) ∧
    ((moving .closing 1 (.delay 0)).Quiet ∧ (moving .closing 1 (.delay 0)).sw.reasons.isEmpty = true) ∧
    ((running.modSw fun w => { w with check := .retry }).Quiet ∧
      (running.modSw fun w => { w with check := .retry }).sw.op = none) := by
  simp only [quiet_iff]; and_intros <;> decide +kernel

/-- An attempt whose capture is complete, with the results at the edges of R136, the set, arming and the holdback. -/
def judged (relay : Relay) (attempt largest sum : Nat) (reasons : Reasons) (armed held : Bool) : State :=
  (captured (moving relay attempt .capture) largest sum).modSw
    fun w => { w with reasons := reasons, armed := armed, held := held }

theorem witness_SettleFollowsCapture :
    ∀ x, x ∈ [(Relay.closing, 3, 2000, 0, noReasons, false, false), (.closing, 1, 1999, 0, noReasons, false, false),
        (.closing, 2, 2000, 0, { noReasons with limit := true }, false, false),
        (.opening, 3, 0, 102400, { noReasons with credit := true }, false, false),
        (.opening, 3, 2000, 102399, noReasons, true, true), (.opening, 1, 1999, 102399, noReasons, false, false)] →
      (judged x.1 x.2.1 x.2.2.1 x.2.2.2.1 x.2.2.2.2.1 x.2.2.2.2.2.1 x.2.2.2.2.2.2).Settled ∧
      (judged x.1 x.2.1 x.2.2.1 x.2.2.2.1 x.2.2.2.2.1 x.2.2.2.2.2.1 x.2.2.2.2.2.2).smp.capture = .running ∧
      (judged x.1 x.2.1 x.2.2.1 x.2.2.2.1 x.2.2.2.2.1 x.2.2.2.2.2.1 x.2.2.2.2.2.2).smp.capCount = 64 ∧
      (judged x.1 x.2.1 x.2.2.1 x.2.2.2.1 x.2.2.2.2.1 x.2.2.2.2.2.1 x.2.2.2.2.2.2).sw.op =
        some ⟨x.2.1, .capture, false, some .credit⟩ ∧
      (judged x.1 x.2.1 x.2.2.1 x.2.2.2.1 x.2.2.2.2.1 x.2.2.2.2.2.1 x.2.2.2.2.2.2).log.queue.length < 7 := by
  simp only [settled_iff, quiet_iff]; decide +kernel

/-- A closing that fails a third time while LIMIT holds: its RELAY finding trips, and TAMPER starts the opening (R137, R127). -/
theorem witness_SettleFollowsCapture_trip :
    let s := judged .closing 3 1999 0 { noReasons with limit := true } false false
    let t := after .captureComplete s
    s.Settled ∧ s.smp.capture = .running ∧ s.sw.held = false ∧ s.sw.awaitRecord = false ∧ s.sw.overRun < 250 ∧
    s.sw.reasons.tamper = false ∧ t.sw.reasons.tamper = true ∧ t.sw.op = some (startedOp (some .tamper)) := by
  simp only [settled_iff, quiet_iff]; decide +kernel

/-- A relay check whose capture is complete, in a phase at a step. -/
def checked (relay : Relay) (largest sum : Nat) (reasons : Reasons) (armed : Bool) (phase : Phase) (step : SeqStep) : State :=
  ((captured (inPhase phase step) largest sum).modSw fun w => { w with
    relay := relay, check := .waiting, held := true, reasons := reasons, armed := armed })

theorem witness_RelayCheckIsJudged :
    ∀ x, x ∈ [(Relay.closed, 2000, 0, noReasons, false, Phase.starting, SeqStep.coldRelayCheck),
        (.closed, 1999, 0, noReasons, false, .resuming, .exitDrain), (.closing, 2000, 0, noReasons, false, .warned, .noStep),
        (.opened, 1999, 102399, noReasons, true, .running, .noStep), (.opened, 0, 102400, noReasons, false, .running, .noStep),
        (.opening, 0, 0, { noReasons with store := true }, false, .running, .noStep)] →
      (checked x.1 x.2.1 x.2.2.1 x.2.2.2.1 x.2.2.2.2.1 x.2.2.2.2.2.1 x.2.2.2.2.2.2).Settled ∧
      (checked x.1 x.2.1 x.2.2.1 x.2.2.2.1 x.2.2.2.2.1 x.2.2.2.2.2.1 x.2.2.2.2.2.2).smp.capture = .running ∧
      (checked x.1 x.2.1 x.2.2.1 x.2.2.2.1 x.2.2.2.2.1 x.2.2.2.2.2.1 x.2.2.2.2.2.2).smp.capCount = 64 ∧
      (checked x.1 x.2.1 x.2.2.1 x.2.2.2.1 x.2.2.2.2.1 x.2.2.2.2.2.1 x.2.2.2.2.2.2).sw.op = none ∧
      (checked x.1 x.2.1 x.2.2.1 x.2.2.2.1 x.2.2.2.2.1 x.2.2.2.2.2.1 x.2.2.2.2.2.2).sw.check = .waiting ∧
      (checked x.1 x.2.1 x.2.2.1 x.2.2.2.1 x.2.2.2.2.1 x.2.2.2.2.2.1 x.2.2.2.2.2.2).LogsEvents := by
  simp only [settled_iff, quiet_iff, logsEvents_iff]; decide +kernel

/-- A supply at an overload run and retry stage; one OPEN for LIMIT alone whose delay has ended. -/
def overloaded (run retry : Nat) : State := running.modSw fun w => { w with overRun := run, retry := retry }
def limited : State := running.modSw fun w => { w with relay := .opened, reasons := { noReasons with limit := true } }

theorem witness_OverloadTripsAndRecloses :
    ((overloaded 249 0).Settled ∧ (overloaded 249 0).sw.overRun < 250) ∧
    ((overloaded 250 4).Settled ∧ 250 ≤ (overloaded 250 4).sw.overRun ∧ (overloaded 250 4).sw.reasons.limit = false ∧
      (overloaded 250 4).sw.relay = .closed ∧ (overloaded 250 4).sw.held = false ∧ (overloaded 250 4).sw.op = none) ∧
    ((limited.modSw fun w => { w with overRun := 250 }).Settled ∧
      (limited.modSw fun w => { w with overRun := 250 }).sw.reasons.limit = true) ∧
    (limited.Settled ∧ (after .limitDelayEnd limited).sw.reasons.isEmpty = true ∧ limited.sw.relay = .opened ∧
      limited.sw.held = false ∧ limited.sw.op = none) := by
  simp only [settled_iff, quiet_iff]; and_intros <;> decide +kernel

/-- An open period, with an IL run. -/
def openPeriod (run : Nat) : State := limited.modSw fun w => { w with openPeriod := true, ilRun := run }

theorem witness_OpenRelayCurrentIsFound :
    ((openPeriod 49).Settled ∧ (openPeriod 49).sw.ilRun < 50) ∧
    (((openPeriod 50).modSw fun w => { w with relayFound := true }).Settled ∧ running.sw.openPeriod = false) ∧
    ((openPeriod 50).Settled ∧ (openPeriod 50).sw.openPeriod = true ∧ 50 ≤ (openPeriod 50).sw.ilRun ∧
      (openPeriod 50).sw.relayFound = false ∧ (openPeriod 50).tam.loaded = true ∧
      (openPeriod 50).tam.latches.relay = .clear ∧ (openPeriod 50).LogsEvents) := by
  simp only [settled_iff, quiet_iff, logsEvents_iff]; and_intros <;> decide +kernel

/-- An OPEN supply at a credit balance, with these reasons and arming. -/
def pressed (credit : Int) (reasons : Reasons) (armed : Bool) : State := (running.modEng fun e => { e with
  credit := credit, repCredit := decide (credit ≤ 0) }).modSw
    fun w => { w with relay := .opened, reasons := reasons, armed := armed }

theorem witness_PressClosesTheSupply :
    ((running.modSw fun w => { w with buttonOn := false }).Settled ∧
      (running.modSw fun w => { w with buttonOn := false }).sw.buttonOn = false) ∧
    ((running.modSw fun w => { w with button := .unsettled }).Settled ∧
      (running.modSw fun w => { w with button := .unsettled }).sw.button ≠ .released) ∧
    (running.Settled ∧ running.sw.button = .released ∧ ¬ (running.eng.credit < running.win.cal.wLow) ∧
      running.sw.relay ≠ .opened) ∧
    ((pressed 5000 noReasons true).Settled ∧ (pressed 5000 noReasons true).sw.buttonOn = true ∧
      (pressed 5000 noReasons true).sw.button = .released ∧ (pressed 5000 noReasons true).sw.op = none ∧
      (pressed 5000 noReasons true).sw.held = false ∧ ¬ ((pressed 5000 noReasons true).eng.credit < 5000) ∧
      (pressed 5000 noReasons true).sw.reasons.isEmpty = true) ∧
    ((pressed (-19999) { noReasons with credit := true } false).Settled ∧
      (pressed (-19999) { noReasons with credit := true } false).eng.ec = .available ∧
      (pressed (-19999) { noReasons with credit := true } false).eng.credit <
        (pressed (-19999) { noReasons with credit := true } false).win.cal.wLow ∧
      1 ≤ (pressed (-19999) { noReasons with credit := true } false).eng.allow ∧
      (pressed (-19999) { noReasons with credit := true } false).eng.repCredit = true ∧
      -20000 < (pressed (-19999) { noReasons with credit := true } false).eng.credit ∧
      (pressed (-19999) { noReasons with credit := true } false).sw.reasons =
        { Reasons.cold with unset := false, credit := true } ∧
      (pressed (-19999) { noReasons with credit := true } false).LogsEvents) ∧
    ((pressed 4999 { noReasons with tamper := true } false).Settled ∧
      (after (.buttonFilterSettle true) (pressed 4999 { noReasons with tamper := true } false)).sw.reasons.isEmpty = false) := by
  simp only [settled_iff, quiet_iff, logsEvents_iff]; and_intros <;> decide +kernel

/-- Tamper runs of this length, toward the other state. -/
def runs (n : Nat) (present : Bool) : State := running.modTam fun t => { t with
  imbalance := present, imbPresent := n, imbAbsent := n, reverse := present, revPresent := n, revAbsent := n }

theorem witness_ConditionsMoveLatches :
    ((runs 49 false).Settled ∧ (runs 49 false).tam.imbPresent < 50) ∧
    ((runs 50 false).Settled ∧ ¬ (runs 50 false).tam.imbPresent < 50 ∧ (runs 50 false).tam.loaded = true ∧
      (runs 50 false).tam.latches.imbalance ≠ .active ∧ named (runs 50 false).win.cal.tripMask .imbalance = true ∧
      (runs 50 false).tam.tripReported = false ∧ (runs 50 false).sw.awaitRecord = false ∧ (runs 50 false).LogsEvents) ∧
    ((runs 50 true).Settled ∧ ¬ (runs 50 true).tam.revAbsent < 50) ∧
    (running.Settled ∧ running.tam.caseFilter.state ≠ .opened ∧ running.tam.coverFilter.state ≠ .intact) ∧
    (running.modTam fun t => { t with loaded := false }).Settled ∧
    ((running.modTam fun t => { t with caseFilter := ⟨.opened, 0, true⟩ }).Settled ∧
      (running.modTam fun t => { t with caseFilter := ⟨.opened, 0, true⟩ }).tam.caseFilter.state = .opened) := by
  simp only [settled_iff, quiet_iff, logsEvents_iff]; and_intros <;> decide +kernel

/-- An append at a stage, with this many records queued and this many lost, at a step of a sequence. -/
def appending (stage : JobStage) (queued lost : Nat) (step : SeqStep) : State :=
  ((working .logAppend stage).modLog fun l => { l with
    stage := .running, queue := (List.range' 40 queued).map event, lost := lost }).modSup fun p => { p with step := step }

theorem witness_AppendsGoOn :
    ∀ x, x ∈ [(JobStage.logBody, 1, 0, SeqStep.noStep), (.logNumber, 8, 65535, .exitDrain), (.logNumberPoll, 1, 0, .exitDrain),
        (.logNumberPoll, 8, 255, .noStep), (.logNumberPoll, 2, 0, .noStep)] →
      (appending x.1 x.2.1 x.2.2.1 x.2.2.2).Quiet ∧ (appending x.1 x.2.1 x.2.2.1 x.2.2.2).path.owner = .own ∧
      (appending x.1 x.2.1 x.2.2.1 x.2.2.2).path.run = some ⟨.logAppend, x.1⟩ ∧
      (appending x.1 x.2.1 x.2.2.1 x.2.2.2).path.stopOwed = false ∧
      (appending x.1 x.2.1 x.2.2.1 x.2.2.2).log.ring = some ⟨6, 2⟩ ∧ WriteResult.dataNack ≠ .acked := by
  simp only [quiet_iff]; decide +kernel

/-- Recovery at the read of a slot, the ring having 16 slots. -/
def recovering (j : Nat) : State := (working .startUpReads (.readRing j)).modLog fun l => { l with
  head := 14, appendNo := 52, recovering := true }

/-- A slot that holds this event number and kind. -/
def slotOf (number kind : Nat) : ReadResult 16 := read 16 (be 4 number ++ be 1 kind ++ be 11 0)

theorem witness_RecoveryReadsForward :
    (∀ j, j ∈ [0, 14, 15] → (recovering j).Settled ∧ (recovering j).path.owner = .own ∧
      (recovering j).path.run = some ⟨.startUpReads, .readRing j⟩ ∧ (recovering j).log.ring = some ⟨6, 2⟩ ∧
      (recovering j).path.stopOwed = false) ∧
    ((recovering 14).log.isMatch 14 ((readBytes (slotOf 66 14)).getD []) = true ∧ 14 + 1 < 16) ∧
    ((recovering 15).log.isMatch 15 ((readBytes (slotOf 67 1)).getD []) = true ∧ 16 ≤ 15 + 1) ∧
    ((recovering 0).log.isMatch 0 ((readBytes (slotOf 52 15)).getD []) = false ∧ readBytes (slotOf 52 15) ≠ none) ∧
    readBytes (.readSelectNack : ReadResult 16) = none := by
  simp only [settled_iff, quiet_iff]; and_intros <;> decide +kernel

/-- A phase, with the warning as it is. -/
def warned (phase : Phase) (raised : Bool) : State := running.modSup fun p => { p with phase := phase, raised := raised }

/-- A host read, in the middle of a byte or not. -/
def hostReads (midByte : Bool) : State :=
  ((hosted (.reading .acked) none).modPins fun p => { p with midByte := midByte }).modSto
    fun a => { a with waiting := some .spend, stage := .queued }

theorem witness_WarningIsTaken :
    (∀ x, x ∈ [(Phase.running, true), (.warned, false), (.held, false), (.starting, false), (.resuming, false)] →
      (warned x.1 x.2).Settled ∧ (warned x.1 x.2).sup.raised = x.2 ∧ (warned x.1 x.2).sup.phase = x.1) ∧
    (∀ m, m ∈ [true, false] → (hostReads m).Settled ∧ (hostReads m).sup.raised = false ∧
      (hostReads m).sup.phase = .running ∧ (hostReads m).sto.state ≠ .noAccount ∧ (hostReads m).path.owner = .host ∧
      (hostReads m).pins.midByte = m ∧ (hostReads m).sw.overRun < 250 ∧ (hostReads m).sto.waiting = some .spend ∧ (hostReads m).LogsEvents) ∧
    ((overloaded 250 0).Settled ∧ (overloaded 250 0).sup.raised = false ∧ (overloaded 250 0).sup.phase = .running ∧
      250 ≤ (overloaded 250 0).sw.overRun) ∧
    ((running.modSto fun a => { a with state := .noAccount }).Settled ∧
      (running.modSto fun a => { a with state := .noAccount }).sto.state = .noAccount ∧
      (running.modSto fun a => { a with state := .noAccount }).path.owner ≠ .host) := by
  simp only [settled_iff, quiet_iff, logsEvents_iff]; and_intros <;> decide +kernel

/-- A job that holds the segment in WARNED. -/
def warnedJob (kind : JobKind) (stage : JobStage) : State :=
  (((working kind stage).modSup fun p => { p with phase := .warned, raised := true, timer := ms 40 }).modSto
    fun a => { a with stage := .inFlight, inTrigger := some .powerFail, carried := some ⟨.credit, 1, 1⟩ }).modLog
      fun l => { l with stage := .running }

/-- A block that is complete when the part is in WARNED. -/
def blockWarned (sl : Int) : State := (block sl 0).modSup fun p => { p with phase := .warned, raised := true, timer := ms 40 }

/-- A host transaction in WARNED whose byte does not end: a read, and the INBOX write of a whole submission. -/
def hostWarned (s : State) : State :=
  (s.modPins fun p => { p with midByte := true }).modSup fun p => { p with phase := .warned, raised := true, timer := ms 40 }

theorem witness_HoldIsEntered_host :
    (∀ s, s ∈ [hostWarned (hosted (.reading .acked) none), hostWarned (submitted exampleDigits)] →
      s.Settled ∧ s.sup.phase = .warned ∧ s.path.owner = .host ∧ s.CaughtUp) ∧
    (hostWarned (hosted (.reading .acked) none)).EndsNoSubmission ∧
    (hostWarned (submitted exampleDigits)).path.window = some .inbox ∧
    (hostWarned (submitted exampleDigits)).path.phase = .writing := by
  simp only [List.forall_mem_cons, settled_iff, quiet_iff, caughtUp_iff, State.EndsNoSubmission]
  and_intros <;> decide +kernel

theorem witness_HoldIsEntered :
    (running.Settled ∧ running.sup.phase ≠ .warned) ∧
    (∀ s, s ∈ [blockWarned 0, blockWarned 2000000000] → s.Settled ∧ s.sup.phase = .warned ∧ s.smp.blockDue = true ∧
      s.smp.capture ≠ .running ∧ s.smp.hall.due (3, 48) = false ∧ s.smp.temp.due (8, 8) = false ∧
      (takeDue s).sup.phase = .warned ∧ (takeDue s).CaughtUp) ∧
    (∀ x, x ∈ [(JobKind.urgentCommit, JobStage.commitRead), (.commit, .commitPrePoll), (.logAppend, .logNumberPoll),
        (.pageWrite, .pageRead)] → (warnedJob x.1 x.2).Settled ∧ (warnedJob x.1 x.2).CaughtUp ∧ (warnedJob x.1 x.2).sup.phase = .warned ∧
      (warnedJob x.1 x.2).path.owner ≠ .host ∧ (warnedJob x.1 x.2).path.run = some ⟨x.1, x.2⟩ ∧
      (warnedJob x.1 x.2).sto.inTrigger = some .powerFail ∧ (warnedJob x.1 x.2).log.stage = .running) ∧
    ((warned .warned true).Settled ∧ (warned .warned true).path.run = none ∧ (warned .warned true).CaughtUp) ∧
    ((warnedJob .urgentCommit .restore).Settled ∧ (warnedJob .urgentCommit .restore).path.owner = .own ∧
      (warnedJob .urgentCommit .restore).path.run = some { kind := .urgentCommit, stage := .restore } ∧
      (warnedJob .urgentCommit .restore).sto.waiting ≠ some .powerFail ∧
      (warnedJob .urgentCommit .restore).path.stopOwed = false ∧ (warnedJob .urgentCommit .restore).CaughtUp) := by
  simp only [settled_iff, quiet_iff, caughtUp_iff]; and_intros <;> decide +kernel

/-- The pointer restore of the hold-exit check, with this many records queued. -/
def exitChecked (queued : Nat) : State :=
  ((working .startUpReads .restore).modSup fun p => { p with phase := .resuming, step := .exitCheck }).modLog
    fun l => { l with queue := (List.range' 40 queued).map event }

/-- The same of a part with no ring, whose queue is empty and stays so. -/
def exitEmpty : State := (exitChecked 0).modLog fun l => { l with ring := none }

theorem witness_HoldExitBegins :
    (running.Settled ∧ running.sup.raised = false) ∧
    ((warned .held true).Settled ∧ (warned .held true).sup.raised = true ∧ (warned .held true).sup.phase = .held) ∧
    (((warned .starting true).modSup fun p => { p with step := .coldClocks }).Settled ∧
      ((warned .starting true).modSup fun p => { p with step := .coldClocks }).sup.step = .coldClocks) ∧
    ((warned .warned true).Settled ∧ (warned .warned true).sup.phase = .warned) ∧
    ((warned .starting true).Settled ∧ (warned .starting true).sup.raised = true ∧ (warned .starting true).sup.phase = .starting ∧
      (warned .starting true).sup.step ≠ .coldClocks) ∧
    ((exitChecked 7).Settled ∧ (exitChecked 7).path.owner = .own ∧
      (exitChecked 7).path.run = some { kind := .startUpReads, stage := .restore } ∧ (exitChecked 7).path.stopOwed = false ∧
      (exitChecked 7).sup.step = .exitCheck ∧
      (exitChecked 7).LogsEvents ∧ (after (.pointerRestoreEnd true) (exitChecked 7)).log.queue ≠ []) ∧
    (exitEmpty.Settled ∧ exitEmpty.sup.step = .exitCheck ∧ (after (.pointerRestoreEnd true) exitEmpty).log.queue = []) := by
  simp only [settled_iff, quiet_iff, logsEvents_iff]; and_intros <;> decide +kernel

theorem witness_ColdStartIsReset : running.sup.powered = true := by decide

/-- A frame at the port with these bytes received, its instruction taken or not. -/
def framed (bytes : List Byte) (taken : Bool) : State :=
  running.modPort fun p => { p with frame := true, bytes := bytes, taken := taken }

/-- Seven bits of SEAL's code in a frame; and what an edge with a 0 at PDI shifts. -/
def sealing : State := (framed [] false).modPort fun p => { p with bits := [false, true, true, true, true, false, true] }
def clocked (s : State) : State := s.modPort fun p => { p with
  out := p.out.tail
  bits := if p.bits.length = 7 then [] else p.bits ++ [false]
  bytes := if p.bits.length = 7 then p.bytes ++ [bitsByte (p.bits ++ [false])] else p.bytes }

theorem witness_PortFramesAndReplies :
    (running.Settled ∧ running.port.frame = false ∧ 0x00 ∉ portCodes) ∧
    ((framed [0x10] false).Settled ∧ (framed [0x10] false).port.frame = true ∧ portDue (clocked (framed [0x10] false)) = none) ∧
    (sealing.Settled ∧ sealing.port.frame = true ∧ portDue (clocked sealing) = some .seal) ∧
    ((framed [0x01] true).Settled ∧ (framed [0x01] true).port.taken = true) ∧
    ((framed [] false).Settled ∧ (framed [] false).port.taken = false) := by
  simp only [settled_iff, quiet_iff]; and_intros <;> decide +kernel

/-- The port of a part, sealed or not, PENDING or not, with a key or none. -/
def ported (isSealed pending : Bool) (key : Option Key) (valid : Bool) : State :=
  ((running.modPort fun p => { p with sealed := isSealed, pagePending := pending }).modDec
    fun d => { d with key := key }).modWin fun w => { w with page0Valid := valid, page1Valid := valid }

theorem witness_PortKeysAndSeals :
    (framed [0x10] true).Settled ∧
    (∀ x, x ∈ [(false, true, none, false), (false, false, some exampleKey, true), (false, false, none, false),
        (true, false, some exampleKey, true)] →
      (ported x.1 x.2.1 x.2.2.1 x.2.2.2).Settled ∧ (ported x.1 x.2.1 x.2.2.1 x.2.2.2).port.frame = false ∧
      (ported x.1 x.2.1 x.2.2.1 x.2.2.2).port.sealed = x.1 ∧ (ported x.1 x.2.1 x.2.2.1 x.2.2.2).port.pagePending = x.2.1 ∧
      (ported x.1 x.2.1 x.2.2.1 x.2.2.2).dec.key = x.2.2.1 ∧ (ported x.1 x.2.1 x.2.2.1 x.2.2.2).win.page0Valid = x.2.2.2 ∧
      (ported x.1 x.2.1 x.2.2.1 x.2.2.2).win.page1Valid = x.2.2.2) := by
  simp only [settled_iff, quiet_iff]; and_intros <;> decide +kernel

/-- A host write in the middle of a byte. -/
def midByteHost : State := (hosted .writing (some .openPage)).modPins fun p => { p with midByte := true }

theorem witness_PortPagesAndRestarts :
    ((ported false false none false).Settled ∧ (ported false false none false).port.sealed = false ∧
      (ported false false none false).port.pagePending = false ∧ (ported false false none false).port.frame = false ∧
      2 ≤ (2 : Byte).toNat ∧ (1 : Byte).toNat < 2 ∧ (ported false false none false).sup.phase = .running) ∧
    ((warned .starting true).Settled ∧ (warned .starting true).sup.phase ≠ .running ∧
      (warned .starting true).port.sealed = false) ∧
    (midByteHost.Settled ∧ midByteHost.pins.midByte = true ∧ midByteHost.port.sealed = false ∧
      midByteHost.port.pagePending = false ∧ midByteHost.port.frame = false) ∧
    (running.pins.midByte = false ∧ (running.modPath fun p => { p with phase := .refused }).Quiet) := by
  simp only [settled_iff, quiet_iff]; and_intros <;> decide +kernel

theorem witness_PageJobGivesResult :
    ∀ stage, stage ∈ [JobStage.pageWrite, .pageRead, .restore] → (working .pageWrite stage).Quiet ∧
      (working .pageWrite stage).path.owner = .own ∧ (working .pageWrite stage).path.stopOwed = false ∧
      (working .pageWrite stage).path.run = some { kind := .pageWrite, stage := stage } ∧
      WriteResult.wordNack ≠ .acked := by
  simp only [quiet_iff]; decide +kernel

/-- The part with a command at the front of its queue. -/
def queued (c : Instr) : State := { running with pending := [c] }

theorem witness_StepsKeepOneOwner : (queued .overloadTrip).OneOwner ∧ (queued .overloadTrip).steps := by
  refine ⟨⟨?_, ?_, ?_, ?_⟩, ⟨_, rfl⟩⟩ <;> decide +kernel

/-- A held change of this kind and value. -/
def holding (kind : CodeKind) (value : Nat) : State := (queued .jobGrant).modSto fun a => { a with held := some ⟨kind, value, 42⟩ }

theorem witness_StepsKeepAccountInRange :
    ((queued .blockEnd).AccountInRange ∧ (queued .blockEnd).steps) ∧
    (holding .limit 65000).AccountInRange ∧ (holding .limit 65000).steps := by
  refine ⟨⟨⟨?_, ?_, ?_, ?_, ?_, ?_, ?_, ?_, ?_, ?_, ?_, ?_, ?_, ?_, ?_⟩, ⟨_, rfl⟩⟩,
    ⟨?_, ?_, ?_, ?_, ?_, ?_, ?_, ?_, ?_, ?_, ?_, ?_, ?_, ?_, ?_⟩, ⟨_, rfl⟩⟩
  all_goals decide +kernel

theorem witness_StepsKeepBounds :
    (queued .overloadTrip).Bounded ∧ (queued .overloadTrip).CountsInRange ∧ (queued .overloadTrip).OneShotNeverActive ∧
    (queued .overloadTrip).steps := by
  refine ⟨⟨?_, ?_, ?_, ?_⟩, ⟨?_, ?_, ?_, ?_, ?_, ?_, ?_, ?_⟩, ⟨?_, ?_, ?_, ?_⟩, ⟨_, rfl⟩⟩ <;> decide +kernel

theorem witness_StepsKeepHoldAtRest :
    (queued .powerFailWarning).RestsInHold ∧ (queued .powerFailWarning).steps := by
  refine ⟨⟨?_, ?_, ?_, ?_, ?_, ?_, ?_, ?_⟩, ⟨_, rfl⟩⟩ <;> decide +kernel

/-- R177: an UNCONFIGURED part enters HOLD at the warning, and rests there. -/
theorem witness_held :
    (after .powerFailWarning (running.modSto fun a => { a with state := .noAccount })).sup.phase = .held ∧
    (after .powerFailWarning (running.modSto fun a => { a with state := .noAccount })).RestsInHold := by
  refine ⟨?_, ⟨?_, ?_, ?_, ?_, ?_, ?_, ?_, ?_⟩⟩ <;> decide +kernel

/-- R176: the warning cannot clear between the warning and hold entry. -/
theorem test_warning_stays :
    (after .warningClear (after .powerFailWarning running)).sup.raised = true ∧
    (after .powerFailWarning running).sup.phase = .warned := by decide +kernel

theorem witness_StepsKeepSealAndKey :
    ({ ported true false (some exampleKey) true with pending := [.key (Vector.replicate 40 0)] } : State).steps ∧
    (ported true false (some exampleKey) true).port.sealed = true ∧
    (ported true false (some exampleKey) true).dec.key = some exampleKey :=
  ⟨⟨_, rfl⟩, by decide +kernel, by decide +kernel⟩

/-- 6, worked example: the key of the meter as KEY's 40 bytes; 40 zeros are out of range (R184). -/
theorem test_key_bytes :
    readKey ((exampleKey.map ++ exampleKey.mask).map (fun n => BitVec.ofNat 8 n) ++ be 2 1234 ++ be 2 567) = some exampleKey ∧
    readKey (be 40 0) = none := by decide +kernel

end Sys2Proof.Tests
end

namespace Sys2Proof.Machine

open Sys2Proof

/-! ## The region table (R23) -/

/-- The pages of two regions that hold at least one page each are disjoint just when one region ends before the other begins. -/
theorem Region.apart_iff {r q : Region} (hr : 1 ≤ r.count) (hq : 1 ≤ q.count) :
    r.apart q = true ↔ ∀ page, ¬ (r.first ≤ page ∧ page ≤ r.first + r.count - 1 ∧
      q.first ≤ page ∧ page ≤ q.first + q.count - 1) := by
  simp only [Region.apart, Bool.or_eq_true, decide_eq_true_eq]
  constructor
  · intro h page
    omega
  · intro h
    have := h (max r.first q.first)
    omega

theorem regionsApart_iff (t : List Region) : regionsApart t = true ↔ t.Pairwise fun r q => r.apart q = true := by
  induction t with
  | nil => simp [regionsApart]
  | cons r rs ih => simp [regionsApart, ih]

theorem Region.sizeOk_iff {r : Region} (h : 1 ≤ r.count) :
    r.sizeOk = true ↔ (r.kind = .account → r.count = 2) ∧ (r.kind = .log → 2 ≤ r.count ∧ r.count ≤ 64) ∧
      (r.kind = .live → r.count = 1) ∧ (r.kind = .inbox → r.count = 1) := by
  cases hk : r.kind <;> simp [Region.sizeOk, hk, h]

/-- One region of each kind but SEALED: the four kinds one by one. -/
theorem oneOfEach_iff (p : RegionKind → Prop) :
    (∀ k, k ≠ .sealedRegion → p k) ↔ p .account ∧ p .log ∧ p .live ∧ p .inbox :=
  ⟨fun h => ⟨h _ nofun, h _ nofun, h _ nofun, h _ nofun⟩, fun ⟨account, log, live, inbox⟩ k hk => by
    cases k with
    | sealedRegion => exact absurd rfl hk
    | account => exact account
    | log => exact log
    | live => exact live
    | inbox => exact inbox⟩

/-- R23: the checks of the table, one after the other. -/
theorem tableValid_iff (t : List Region) : tableValid t = true ↔
    (∀ r ∈ t, 2 ≤ r.first ∧ r.first ≤ 511 ∧ 1 ≤ r.count ∧ r.first + r.count - 1 ≤ 511) ∧
    t.Pairwise (fun r q => r.apart q = true) ∧
    (∀ k : RegionKind, k ≠ .sealedRegion → kindCount t k = 1) ∧
    (∀ r ∈ t, r.sizeOk = true) ∧ kindCount t .sealedRegion ≤ 4 := by
  rw [oneOfEach_iff]
  simp only [tableValid, Bool.and_eq_true, List.all_eq_true, decide_eq_true_eq, regionsApart_iff, and_assoc]
  grind

/-- Settles O17. Where every region has its place it holds at least one page, so the model's comparison of ends is the
disjointness of the pages, and its table of sizes that of the kinds. -/
theorem regionTableCheck : Obligations.RegionTableCheck := by
  unfold Obligations.RegionTableCheck
  intro t
  refine (tableValid_iff t).trans (and_congr_right fun placed => ?_)
  have count : ∀ r ∈ t, 1 ≤ r.count := by
    intro r hr
    obtain ⟨-, -, count, -⟩ := placed r hr
    exact count
  refine and_congr ?disjoint (and_congr Iff.rfl (and_congr ?sizes Iff.rfl))
  case disjoint => exact List.Pairwise.iff_of_mem fun hr hq => Region.apart_iff (count _ hr) (count _ hq)
  case sizes => exact forall₂_congr fun r hr => Region.sizeOk_iff (count r hr)

end Sys2Proof.Machine

namespace Sys2Proof.Machine

open Sys2Proof

/-! ## What a block asks of the Path Unit and of the Account Store -/

/-- `t` differs from `s` in the Path Unit at most in the waiting jobs, and in the Account Store at most in the request that waits:
all that an event, a report or a latch move does there while the generations have not ended (R3, R85 to R87). -/
structure OnlyAsks (s t : State) : Prop where
  generation : t.sto.generationEnded = false
  path : t.path = { s.path with jobs := t.path.jobs }
  store : t.sto = { s.sto with waiting := t.sto.waiting, stage := t.sto.stage }

section
variable {l : List Block} {s t u : State}

theorem OnlyAsks.refl (h : s.sto.generationEnded = false) : OnlyAsks s s := ⟨h, rfl, rfl⟩

theorem OnlyAsks.trans (h : OnlyAsks s t) (g : OnlyAsks t u) : OnlyAsks s u where
  generation := g.generation
  path := by rw [g.path, h.path]
  store := by rw [g.store, h.store]

/-- What touches neither of the two blocks asks nothing of them. -/
theorem OnlyAsks.of_frame (h : OnlyAsks s t) (g : Frame l t u) (path : .path ∉ l) (store : .sto ∉ l) : OnlyAsks s u where
  generation := by rw [g.sto store, h.generation]
  path := by rw [g.path path, ← h.path]
  store := by rw [g.sto store, ← h.store]

theorem OnlyAsks.addJob (k : JobKind) (h : OnlyAsks s t) : OnlyAsks s (addJob k t) := by
  unfold Machine.addJob
  split
  · exact h
  · exact ⟨h.generation, by rw [State.modPath_path, h.path], h.store⟩

theorem OnlyAsks.dropJob (k : JobKind) (h : OnlyAsks s t) : OnlyAsks s (dropJob k t) :=
  ⟨h.generation, by rw [Machine.dropJob, State.modPath_path, h.path], h.store⟩

/-- The request that waits and the stage may change. -/
theorem OnlyAsks.modSto {f : Store → Store} (hf : f t.sto = { t.sto with waiting := (f t.sto).waiting, stage := (f t.sto).stage })
    (h : OnlyAsks s t) : OnlyAsks s (t.modSto f) where
  generation := by rw [State.modSto_sto, hf, ← h.generation]; rfl
  path := h.path
  store := by rw [State.modSto_sto, hf, h.store]

theorem OnlyAsks.mergeRequest (a b : Trigger) (h : OnlyAsks s t) : OnlyAsks s (mergeRequest a b t) := by
  have merged := h.modSto (f := fun x => { x with waiting := some a }) rfl
  unfold Machine.mergeRequest
  dsimp only
  split
  · split
    · exact (merged.dropJob _).addJob _
    · exact merged
  · exact h

theorem OnlyAsks.requestCommit (a : Trigger) (h : OnlyAsks s t) : OnlyAsks s (requestCommit a t) := by
  unfold Machine.requestCommit
  split
  · exact h
  · rw [if_neg (by simp [h.generation])]
    split
    · exact (h.modSto rfl).addJob _
    · exact h.mergeRequest _ _


/-! ### Events and latch moves -/

theorem OnlyAsks.modLog (f : EventLog → EventLog) (h : OnlyAsks s t) : OnlyAsks s (t.modLog f) :=
  h.of_frame (l := [.log]) (by simp) (by decide) (by decide)

theorem OnlyAsks.modSw (f : Switch → Switch) (h : OnlyAsks s t) : OnlyAsks s (t.modSw f) :=
  h.of_frame (l := [.sw]) (by simp) (by decide) (by decide)

theorem OnlyAsks.modTam (f : Tamper → Tamper) (h : OnlyAsks s t) : OnlyAsks s (t.modTam f) :=
  h.of_frame (l := [.tam]) (by simp) (by decide) (by decide)

theorem OnlyAsks.queueEvent (k : EventKind) (d : Nat) (h : OnlyAsks s t) : OnlyAsks s (queueEvent k d t) := by
  unfold Machine.queueEvent
  dsimp only
  split
  · exact ((h.modLog _).modLog _).addJob _
  · exact h.modLog _

theorem OnlyAsks.raiseEvent (k : EventKind) (d : Nat) (h : OnlyAsks s t) : OnlyAsks s (raiseEvent k d t) := by
  have lost : OnlyAsks s (countLost t) := h.modLog _
  unfold Machine.raiseEvent
  split
  · split
    · exact h.modLog _
    · exact lost
  · split
    · exact h
    · split
      · exact h.queueEvent k d
      · exact lost

/-! ### Reports to the Switch Controller -/

/-- Beside what it asks of the two blocks, a report to the Switch Controller reaches the Tamper Monitor at most in the BYPASS
condition, which ends with the start of an operation (R132, R140). -/
structure OnlyReports (s t : State) : Prop extends OnlyAsks s t where
  tamper : t.tam = { s.tam with
    bypass := t.tam.bypass, latches := { s.tam.latches with bypass := t.tam.latches.bypass } }
  bypass : s.tam.latches.bypass = .clear → t.tam.latches.bypass = .clear

theorem OnlyReports.refl (h : s.sto.generationEnded = false) : OnlyReports s s := ⟨.refl h, rfl, id⟩

theorem OnlyReports.of_tam (h : OnlyReports s t) (g : OnlyAsks s u) (tam : u.tam = t.tam) : OnlyReports s u :=
  ⟨g, by rw [tam, ← h.tamper], by rw [tam]; exact h.bypass⟩

theorem OnlyReports.of_frame (h : OnlyReports s t) (g : Frame l t u) (path : .path ∉ l) (store : .sto ∉ l) (tam : .tam ∉ l) :
    OnlyReports s u := h.of_tam (h.toOnlyAsks.of_frame g path store) (g.tam tam)

theorem OnlyReports.modSw (f : Switch → Switch) (h : OnlyReports s t) : OnlyReports s (t.modSw f) :=
  h.of_tam (h.toOnlyAsks.modSw f) rfl

theorem OnlyReports.requestCommit (a : Trigger) (h : OnlyReports s t) : OnlyReports s (requestCommit a t) :=
  h.of_tam (h.toOnlyAsks.requestCommit a) (Frame.tam (l := [.path, .sto]) (by simp) (by decide))

/-- R149: the BYPASS condition ends, and an ACTIVE latch of it is HELD. -/
theorem conditionAbsent_bypass (s : State) : (conditionAbsent .bypass s).tam = { s.tam with bypass := false } ∨
    (s.tam.latches.bypass = .active ∧
      (conditionAbsent .bypass s).tam = { s.tam with bypass := false, latches := { s.tam.latches with bypass := .held } }) := by
  unfold conditionAbsent
  rw [State.modTam_tam]
  dsimp only
  split
  case isTrue h => exact .inr ⟨of_decide_eq_true (Bool.and_eq_true_iff.mp h).2, rfl⟩
  case isFalse => exact .inl rfl

theorem OnlyReports.bypassAbsent (h : OnlyReports s t) : OnlyReports s (bypassAbsent t) := by
  unfold Machine.bypassAbsent
  split
  · have asks : OnlyAsks s (conditionAbsent .bypass (t.modSw fun w => { w with bypass := false })) :=
      (h.toOnlyAsks.modSw _).modTam _
    rcases conditionAbsent_bypass (t.modSw fun w => { w with bypass := false }) with ended | ⟨active, ended⟩ <;>
      rw [State.modSw_tam] at ended
    · exact ⟨asks, by rw [ended, h.tamper], fun clear => by rw [ended]; exact h.bypass clear⟩
    · exact ⟨asks, by rw [ended, h.tamper], fun clear => absurd active (by simp [h.bypass clear])⟩
  · exact h

theorem OnlyReports.startOperation (c : Bool) (o : Option Reason) (h : OnlyReports s t) :
    OnlyReports s (startOperation c o t) := (h.modSw _).bypassAbsent

theorem OnlyReports.enterReason (r : Reason) (h : OnlyReports s t) : OnlyReports s (enterReason r t) := by
  refine OnlyReports.requestCommit _ ?_
  split
  · exact (h.modSw _).startOperation _ _
  · exact h.modSw _

theorem OnlyReports.overloadTrip (h : OnlyReports s t) : OnlyReports s (overloadTrip t) := by
  unfold Machine.overloadTrip
  dsimp only
  split
  · split
    · exact h.modSw _
    · exact (h.modSw _).enterReason _
  · exact h

theorem OnlyReports.lastReasonLeft (r : Reason) (h : OnlyReports s t) : OnlyReports s (lastReasonLeft r t) := by
  unfold Machine.lastReasonLeft
  split
  case h_1 =>
    split
    · split
      · exact h.startOperation _ _
      · exact h
    · exact h.modSw _
  case h_2 =>
    split
    · exact h
    · exact h.modSw _
  case h_3 => exact h
  case h_4 => exact h

theorem OnlyReports.reasonLeaves (r : Reason) (h : OnlyReports s t) : OnlyReports s (reasonLeaves r t) := by
  refine OnlyReports.requestCommit _ ?_
  split
  · exact (h.modSw _).lastReasonLeft _
  · exact h.modSw _

theorem OnlyReports.follow (r : Reason) (b : Bool) (h : OnlyReports s t) : OnlyReports s (follow r b t) := by
  unfold Machine.follow
  split
  · exact h
  · split
    · exact h.overloadTrip.enterReason r
    · exact h.reasonLeaves r

theorem OnlyReports.followUnset (b : Bool) (h : OnlyReports s t) : OnlyReports s (followUnset b t) := by
  unfold Machine.followUnset
  split
  · exact h.follow _ _
  · split
    · exact h
    · exact h.follow _ _

theorem OnlyReports.takeReport (r : Report) (h : OnlyReports s t) : OnlyReports s (takeReport r t) := by
  cases r with
  | credit b => exact (h.modSw _).follow _ _
  | trip b => exact (h.modSw _).follow _ _
  | temp b => exact (h.modSw _).follow _ _
  | rateUnset b => exact (h.modSw _).followUnset _
  | unconfigured b => exact (h.modSw _).followUnset _
  | account a => exact ((h.modSw _).follow _ _).followUnset _

theorem OnlyReports.report (r : Report) (h : OnlyReports s t) : OnlyReports s (report r t) := by
  unfold Machine.report
  split
  · exact h.modSw _
  · exact h.takeReport r

theorem OnlyAsks.report (r : Report) (h : OnlyAsks s t) : OnlyAsks s (report r t) :=
  h.trans ((OnlyReports.refl h.generation).report r).toOnlyAsks

theorem OnlyReports.startUpConditions (h : OnlyReports s t) : OnlyReports s (startUpConditions t) := by
  have evaluated := (h.of_frame (l := [.eng]) (u := t.modEng fun e => { e with
    lowFlag := t.eng.lowCredit t.win.cal.wLow, repCredit := t.eng.creditCondition
    repLow := t.eng.lowCredit t.win.cal.wLow }) (by simp) (by decide) (by decide) (by decide)).report
      (.credit t.eng.creditCondition)
  exact (evaluated.of_frame (l := [.sw, .eng]) (by simp) (by decide) (by decide) (by decide)).report _

/-! ### Latches -/

theorem OnlyAsks.evalTrip (h : OnlyAsks s t) : OnlyAsks s (evalTrip t) := by
  unfold Machine.evalTrip
  dsimp only
  split
  · exact h
  · exact (h.modTam _).report _

theorem OnlyAsks.moveLatch (b : Bool) (k : TamperKind) (v : Latch) (e : EventKind) (h : OnlyAsks s t) :
    OnlyAsks s (moveLatch b k v e t) := by
  have moved := (h.modTam fun m => { m with latches := m.latches.set k v }).raiseEvent e k.num
  unfold Machine.moveLatch
  cases b with
  | false => exact moved.requestCommit _
  | true => exact moved.evalTrip.requestCommit _

theorem OnlyAsks.latchPresent (b : Bool) (k : TamperKind) (h : OnlyAsks s t) : OnlyAsks s (latchPresent b k t) := by
  unfold Machine.latchPresent
  split
  · exact h
  · exact h.moveLatch _ _ _ _

theorem OnlyAsks.latchFinding (b : Bool) (k : TamperKind) (h : OnlyAsks s t) : OnlyAsks s (latchFinding b k t) := by
  unfold Machine.latchFinding
  split
  · exact h.moveLatch _ _ _ _
  · exact h

theorem OnlyAsks.finding (k : TamperKind) (h : OnlyAsks s t) : OnlyAsks s (finding k t) := by
  unfold Machine.finding
  split
  · exact h.latchFinding _ _
  · exact h.modTam _

theorem OnlyAsks.applyFindings (f : Findings) (h : OnlyAsks s t) : OnlyAsks s (applyFindings f t) := by
  unfold Machine.applyFindings
  induction tamperKinds generalizing t with
  | nil => exact h
  | cons k ks ih =>
    refine ih ?_
    dsimp only
    split
    · exact h.latchFinding _ _
    · exact h

/-! ### The steps of a cold start -/

/-- R150: the latches and the findings in their places, up to the report of the trip condition. -/
def placeLatches (l : Latches) (s : State) : State :=
  let placed := s.modTam fun m => { m with latches := l.loaded, loaded := true, waiting := .cold }
  let cased := if placed.tam.caseCond then latchPresent false .caseOpen placed else placed
  let covered := if cased.tam.coverCond then latchPresent false .cover cased else cased
  applyFindings s.tam.waiting covered

/-- R150: the trip condition, as it is handed over. -/
def noteTrip (s : State) : State :=
  s.modTam fun m => { m with tripReported := tripCondition s.win.cal.tripMask s.tam.latches }

theorem loadLatches_eq (m : Latches) (s : State) : loadLatches m s =
    report (.trip (tripCondition (placeLatches m s).win.cal.tripMask (placeLatches m s).tam.latches))
      (noteTrip (placeLatches m s)) := rfl

theorem OnlyAsks.placeLatches (m : Latches) (h : OnlyAsks s t) : OnlyAsks s (placeLatches m t) := by
  have present : ∀ {u} {c : Bool} {k}, OnlyAsks s u → OnlyAsks s (if c then Machine.latchPresent false k u else u) := by
    intro u c k g
    split
    · exact g.latchPresent _ _
    · exact g
  exact (present (present (h.modTam _))).applyFindings _

theorem OnlyAsks.loadLatches (m : Latches) (h : OnlyAsks s t) : OnlyAsks s (loadLatches m t) := by
  rw [loadLatches_eq]
  exact ((h.placeLatches m).modTam _).report _

theorem OnlyAsks.invalidPage (b : Bool) (h : OnlyAsks s t) : OnlyAsks s (invalidPage b t) := by
  unfold Machine.invalidPage
  split
  · exact h.finding _
  · exact h

theorem OnlyAsks.startUpConditions (h : OnlyAsks s t) : OnlyAsks s (startUpConditions t) :=
  h.trans (OnlyReports.refl h.generation).startUpConditions.toOnlyAsks

theorem OnlyAsks.decidePage0 (r : Option (List Byte)) (h : OnlyAsks s t) : OnlyAsks s (decidePage0 r t) := by
  unfold Machine.decidePage0
  split
  · exact (h.of_frame (l := [.win, .log]) (by simp) (by decide) (by decide)).report _
  · exact ((((h.invalidPage _).modLog _).modSw _).report _).startUpConditions

theorem OnlyAsks.decidePage1 (r : Option (List Byte)) (h : OnlyAsks s t) : OnlyAsks s (decidePage1 r t) := by
  unfold Machine.decidePage1
  split
  · exact h.of_frame (l := [.win]) (by simp) (by decide) (by decide)
  · exact h.invalidPage _

end
end Sys2Proof.Machine

namespace Sys2Proof.Machine

open Sys2Proof

section
variable {l : List Block} {s t u : State}

/-- States that agree in every block are the same. -/
theorem State.eq_of_blocks (pins : t.pins = s.pins) (lines : t.lines = s.lines) (path : t.path = s.path) (win : t.win = s.win)
    (smp : t.smp = s.smp) (eng : t.eng = s.eng) (sto : t.sto = s.sto) (dec : t.dec = s.dec) (sw : t.sw = s.sw)
    (tam : t.tam = s.tam) (log : t.log = s.log) (sup : t.sup = s.sup) (port : t.port = s.port) (free : t.free = s.free)
    (pending : t.pending = s.pending) : t = s := by
  cases s
  cases t
  simp_all

theorem Frame.mono {m : List Block} (h : Frame l s t) (sub : l ⊆ m) : Frame m s t := fun b hb => h b fun hl => hb (sub hl)

/-! ### Latches of the kinds, one move at a time -/

theorem Latches.set_get (m : Latches) (k : TamperKind) : m.set k (m.get k) = m := by cases k <;> rfl

/-- A move at loading, or within a CLEAR, reaches the Tamper Monitor in its latch alone. -/
theorem moveLatch_tam (k : TamperKind) (v : Latch) (e : EventKind) (s : State) :
    (moveLatch false k v e s).tam = { s.tam with latches := s.tam.latches.set k v } := by
  have moved : Frame [.path, .sto, .log] (s.modTam fun m => { m with latches := m.latches.set k v })
      (moveLatch false k v e s) := by simp [moveLatch]
  exact moved.tam (by decide)

theorem latchPresent_tam (isPresent : Bool) (k : TamperKind) (s : State) :
    (if isPresent then latchPresent false k s else s).tam =
      { s.tam with latches := s.tam.latches.set k (if isPresent then .active else s.tam.latches.get k) } := by
  cases isPresent with
  | false => simp [Latches.set_get]
  | true =>
    rw [if_pos rfl, if_pos rfl, latchPresent]
    split
    case isTrue h => rw [← h, Latches.set_get]
    case isFalse => exact moveLatch_tam _ _ _ _

/-- R149: a one-shot finding takes a CLEAR latch to HELD. -/
def Latch.found : Latch → Bool → Latch
  | .clear, true => .held
  | v, _ => v

@[simp] theorem Latch.found_false (v : Latch) : v.found false = v := by cases v <;> rfl

theorem Latch.found_of_ne {v : Latch} (h : v ≠ .clear) (isFound : Bool) : v.found isFound = v := by
  cases v with
  | clear => exact absurd rfl h
  | active => rfl
  | held => rfl

theorem Latch.clear_found (isFound : Bool) : Latch.clear.found isFound = if isFound then .held else .clear := by
  cases isFound <;> rfl

theorem latchFinding_tam (isFound : Bool) (k : TamperKind) (s : State) :
    (if isFound then latchFinding false k s else s).tam =
      { s.tam with latches := s.tam.latches.set k ((s.tam.latches.get k).found isFound) } := by
  cases isFound with
  | false => simp [Latches.set_get]
  | true =>
    by_cases h : s.tam.latches.get k = .clear
    · simp [latchFinding, h, moveLatch_tam, Latch.clear_found]
    · simp [latchFinding, h, Latch.found_of_ne, Latches.set_get]

/-- A move that is handed on can end the BYPASS condition (R140), and leaves the other latches. -/
theorem moveLatch_latches (b : Bool) (k : TamperKind) (v : Latch) (e : EventKind) (h : s.sto.generationEnded = false) :
    (moveLatch b k v e s).tam.latches =
      { s.tam.latches.set k v with bypass := (moveLatch b k v e s).tam.latches.bypass } := by
  let moved := raiseEvent e k.num (s.modTam fun m => { m with latches := m.latches.set k v })
  have asks : OnlyAsks s moved := ((OnlyAsks.refl h).modTam _).raiseEvent _ _
  have raised : Frame [.path, .log] (s.modTam fun m => { m with latches := m.latches.set k v }) moved := by simp [moved]
  have latches : moved.tam.latches = s.tam.latches.set k v := congrArg Tamper.latches (raised.tam (by decide))
  have requested : ∀ u, (requestCommit .latch u).tam = u.tam := fun u =>
    Frame.tam (l := [.path, .sto]) (by simp) (by decide)
  show (requestCommit .latch (if b then evalTrip moved else moved)).tam.latches = { s.tam.latches.set k v with
    bypass := (requestCommit .latch (if b then evalTrip moved else moved)).tam.latches.bypass }
  rw [requested]
  split
  · unfold evalTrip
    dsimp only
    split
    · rw [latches]
    · have trip := (OnlyReports.refl (asks.modTam fun m => { m with
        tripReported := tripCondition moved.win.cal.tripMask moved.tam.latches }).generation).report
          (.trip (tripCondition moved.win.cal.tripMask moved.tam.latches))
      rw [trip.tamper, State.modTam_tam, ← latches]
  · rw [latches]

/-! ### A page that is not valid (R24, R26) -/

/-- Before the latches are loaded a failed read, and an invalid page on a sealed part, is a waiting finding. -/
theorem invalidPage_waiting (b : Bool) (loaded : s.tam.loaded = false) : invalidPage b s = s.modTam fun m => { m with
    waiting := { m.waiting with memory := m.waiting.memory || (b || s.port.sealed) } } := by
  unfold invalidPage
  split
  case isTrue h => simp [finding, loaded, Findings.add, h]
  case isFalse h =>
    rw [Bool.not_eq_true] at h
    simp [h, State.modTam]

/-- Once they are loaded it leaves the latch set. -/
theorem invalidPage_memory (b : Bool) (loaded : s.tam.loaded = true) (h : b = true ∨ s.port.sealed = true)
    (generation : s.sto.generationEnded = false) : (invalidPage b s).tam.latches.memory ≠ .clear := by
  simp only [invalidPage, finding, latchFinding, Bool.or_eq_true, h, loaded, if_true]
  split
  · rw [moveLatch_latches _ _ _ _ generation]
    exact nofun
  · assumption

/-! ### The loading of the latches (R150) -/

/-- R150 step 3: each kind in its turn. -/
theorem foldl_latchFinding_tam (f : Findings) (ks : List TamperKind) (s : State) :
    (ks.foldl (fun s k => if f.has k then latchFinding false k s else s) s).tam = { s.tam with
      latches := ks.foldl (fun m k => m.set k ((m.get k).found (f.has k))) s.tam.latches } := by
  induction ks generalizing s with
  | nil => rfl
  | cons k ks ih => rw [List.foldl_cons, ih, latchFinding_tam, List.foldl_cons]

/-- R150 step 3: the waiting findings take CLEAR latches to HELD. -/
theorem applyFindings_tam (f : Findings) (s : State) : (applyFindings f s).tam = { s.tam with latches := { s.tam.latches with
    relay := s.tam.latches.relay.found f.relay
    port := s.tam.latches.port.found f.port
    memory := s.tam.latches.memory.found f.memory
    path := s.tam.latches.path.found f.path } } := by
  rw [applyFindings, foldl_latchFinding_tam]
  simp only [tamperKinds, List.foldl, Findings.has, Latches.get, Latches.set, Latch.found_false]

/-- R150, for a part that has no record: the latches are CLEAR but for a present CASE or COVER condition and the waiting
findings. -/
theorem placeLatches_cold_tam (s : State) : (placeLatches .cold s).tam = { s.tam with
    loaded := true
    waiting := .cold
    latches := { Latches.cold with
      caseOpen := if s.tam.caseCond then .active else .clear
      cover := if s.tam.coverCond then .active else .clear
      relay := if s.tam.waiting.relay then .held else .clear
      port := if s.tam.waiting.port then .held else .clear
      memory := if s.tam.waiting.memory then .held else .clear
      path := if s.tam.waiting.path then .held else .clear } } := by
  simp only [placeLatches, applyFindings_tam, latchPresent_tam, ← Latch.clear_found]
  rfl

/-- R150: the report of the trip condition that follows leaves them. -/
theorem loadLatches_cold_tam (h : s.sto.generationEnded = false) :
    (loadLatches .cold s).tam.loaded = true ∧ (loadLatches .cold s).tam.waiting = .cold ∧
    (loadLatches .cold s).tam.latches = (placeLatches .cold s).tam.latches := by
  have trip : OnlyReports (noteTrip (placeLatches .cold s)) (loadLatches .cold s) := by
    rw [loadLatches_eq]
    exact (OnlyReports.refl (((OnlyAsks.refl h).placeLatches _).modTam _).generation).report _
  have noted : (noteTrip (placeLatches .cold s)).tam.latches = (placeLatches .cold s).tam.latches := rfl
  have bypass := trip.bypass (by rw [noted, placeLatches_cold_tam]; rfl)
  refine ⟨?_, ?_, ?_⟩ <;> rw [trip.tamper]
  · exact congrArg Tamper.loaded (placeLatches_cold_tam s)
  · exact congrArg Tamper.waiting (placeLatches_cold_tam s)
  · rw [bypass, noted, placeLatches_cold_tam]
    rfl

/-! ## Page 0 (R24) -/

/-- R81: the Engine notes what it has reported at start-up, and nothing else of it changes. -/
theorem startUpConditions_eng (s : State) : (startUpConditions s).eng = { s.eng with
    lowFlag := s.eng.lowCredit s.win.cal.wLow, repCredit := s.eng.creditCondition
    repLow := s.eng.lowCredit s.win.cal.wLow, repUnset := s.eng.rateUnset } := by
  have reported : ∀ (r : Report) (u : State), (report r u).eng = u.eng := fun r u =>
    Frame.eng (l := [.path, .sto, .sw, .tam]) (by simp) (by decide)
  simp only [startUpConditions, reportRateUnset, setLowcr, reported, State.modEng_eng, State.modSw_eng]
  rfl

/-- R24: a valid page 0: the layout comes into force, and the Log Writer has its ring. -/
theorem decidePage0_valid {read : Option (List Byte)} {y : Layout} (h : read.bind validLayout = some y) (s : State) :
    decidePage0 read s = report (.unconfigured false)
      ((s.modWin fun w => w.configure y).modLog fun g => { g with ring := (s.win.configure y).ring }) := by
  rw [decidePage0, h]
  rfl

/-- R24, R172: otherwise the page is not valid, and what the Log Writer held is discarded. -/
theorem decidePage0_invalid {read : Option (List Byte)} (h : read.bind validLayout = none) (s : State) :
    decidePage0 read s = startUpConditions (report (.unconfigured true)
      (((invalidPage read.isNone s).modLog EventLog.withoutRing).modSw fun w => { w with awaitRecord := false })) := by
  rw [decidePage0, h]

/-- R81: of the Engine no more than what it has reported changes. -/
theorem decidePage0_eng (read : Option (List Byte)) (s : State) : (decidePage0 read s).eng = { s.eng with
    lowFlag := (decidePage0 read s).eng.lowFlag, repCredit := (decidePage0 read s).eng.repCredit
    repLow := (decidePage0 read s).eng.repLow, repUnset := (decidePage0 read s).eng.repUnset } := by
  cases h : read.bind validLayout with
  | some y =>
    have eng : (decidePage0 read s).eng = s.eng := by
      rw [decidePage0_valid h]
      exact Frame.eng (l := [.path, .sto, .sw, .tam, .win, .log]) (by simp) (by decide)
    rw [eng]
  | none =>
    have eng : (report (.unconfigured true) (((invalidPage read.isNone s).modLog EventLog.withoutRing).modSw
        fun w => { w with awaitRecord := false })).eng = s.eng :=
      Frame.eng (l := [.path, .sto, .sw, .tam, .log]) (by simp) (by decide)
    rw [decidePage0_invalid h, startUpConditions_eng, eng]

/-- Beside the layout and the ring, a valid page 0 makes one report. -/
theorem decidePage0_valid_reports {read : Option (List Byte)} {y : Layout} (h : read.bind validLayout = some y)
    (generation : s.sto.generationEnded = false) : OnlyReports s (decidePage0 read s) := by
  rw [decidePage0_valid h]
  exact ((OnlyReports.refl generation).of_frame (l := [.win, .log]) (by simp) (by decide) (by decide) (by decide)).report _

/-- Beside what the Log Writer discards, an invalid page 0 makes reports once its own finding is made. -/
theorem decidePage0_invalid_reports {read : Option (List Byte)} (h : read.bind validLayout = none)
    (generation : s.sto.generationEnded = false) :
    OnlyReports (invalidPage read.isNone s) (decidePage0 read s) := by
  have asks : OnlyAsks s (invalidPage read.isNone s) := (OnlyAsks.refl generation).invalidPage _
  rw [decidePage0_invalid h]
  exact (((OnlyReports.refl asks.generation).of_frame (l := [.log, .sw]) (by simp) (by decide) (by decide)
    (by decide)).report _).startUpConditions

/-! ## Page 1 (R25) -/

theorem decidePage1_valid {read : Option (List Byte)} {c : Calibration} (h : read.bind validCalibration = some c) (s : State) :
    decidePage1 read s = s.modWin fun w => { w with cal := c, calFromPage1 := true, page1Valid := true } := by
  rw [decidePage1, h]

theorem decidePage1_invalid {read : Option (List Byte)} (h : read.bind validCalibration = none) (s : State) :
    decidePage1 read s = invalidPage read.isNone s := by
  rw [decidePage1, h]

/-- R25, R26: before the latches are loaded page 1 decides the calibration, or is a waiting finding, and nothing else. -/
theorem decidePage1_unloaded (read : Option (List Byte)) (loaded : s.tam.loaded = false) :
    Frame [.win, .tam] s (decidePage1 read s) ∧
    (decidePage1 read s).tam = { s.tam with waiting := { s.tam.waiting with memory := s.tam.waiting.memory ||
      ((read.bind validCalibration).isNone && (read.isNone || s.port.sealed)) } } := by
  cases h : read.bind validCalibration with
  | some c =>
    rw [decidePage1_valid h]
    exact ⟨by simp, by simp⟩
  | none =>
    rw [decidePage1_invalid h, invalidPage_waiting _ loaded]
    exact ⟨by simp, by simp⟩

/-! ## The transactions of the START-UP READS job -/

/-- With no STOP owed the next transaction of a job goes onto the memory segment. -/
theorem jobStage_free (stage : JobStage) (act : OwnAct) (h : s.path.stopOwed = false) : jobStage stage act s = { s with
    lines := { s.lines with seg := s.lines.seg ++ [s.own act] }
    path := { s.path with run := s.path.run.map fun r => { r with stage := stage }, pollTime := 0 } } :=
  issue_free act (s.modPath _) h

/-- A job that has read, and whose read has been acted on, goes on to a stage with its transaction. -/
theorem jobStage_afterRead {m : Option Addr} {run : JobRun} (stage : JobStage) (act : OwnAct)
    (h : OnlyAsks (setMirror m (clearLines s)) u) (lines : u.lines = (clearLines s).lines)
    (free : s.path.stopOwed = false) (job : s.path.run = some run) : jobStage stage act u = { u with
      lines := s.said none none [s.own act]
      path := { s.path with
        run := some { run with stage := stage }, pollTime := 0, mirror := m, jobs := u.path.jobs } } := by
  have path : u.path = { s.path with mirror := m, jobs := u.path.jobs } := h.path
  have owed : u.path.stopOwed = false := by rw [path]; exact free
  have own : u.own act = s.own act := by rw [State.own, path]; rfl
  have goes : u.path.run.map (fun r => { r with stage := stage }) = some { run with stage := stage } := by
    rw [path]
    simp [job]
  rw [jobStage_free _ _ owed, lines, own, goes]
  conv_lhs => rw [path]
  rfl

/-- PAGE0_READ_DONE of the job that reads page 0. -/
theorem page0Read_eq (r : ReadResult 128) {run : JobRun} (job : s.path.run = some run) (stage : run.stage = .readPage0)
    (free : s.path.stopOwed = false) : page0Read r (clearLines s) =
      page0Done (readBytes r) (setMirror (readMirror r 0 s.path.mirror) (clearLines s)) := by
  simp [page0Read, clearLines, State.onSegment, State.stage, free, job, stage]

/-- PAGE1_READ_DONE of the job that reads page 1. -/
theorem page1Read_eq (r : ReadResult 128) {run : JobRun} (job : s.path.run = some run) (stage : run.stage = .readPage1)
    (free : s.path.stopOwed = false) : page1Read r (clearLines s) =
      page1Done (readBytes r) (setMirror (readMirror r 128 s.path.mirror) (clearLines s)) := by
  simp [page1Read, clearLines, State.onSegment, State.stage, free, job, stage]

/-- The outcome of a command by which a job's read is acted on and the job goes on. -/
theorem runCommand_afterRead {f : State → State} {m : Option Addr} {run : JobRun} {stage : JobStage} {act : OwnAct}
    (h : s.Settled) (own : s.path.owner = .own) (free : s.path.stopOwed = false) (job : s.path.run = some run)
    (goes : f (clearLines s) = jobStage stage act u) (asks : OnlyAsks (setMirror m (clearLines s)) u)
    (lines : u.lines = (clearLines s).lines) (hold : u.sup.holdDue = s.sup.holdDue)
    (restart : u.sup.restartDue = s.sup.restartDue) : runCommand f s = .next { u with
      lines := s.said none none [s.own act]
      path := { s.path with
        run := some { run with stage := stage }, pollTime := 0, mirror := m, jobs := u.path.jobs } } := by
  have ended : u.sto.ended = s.sto.ended := by
    rw [asks.store]
    rfl
  exact runCommand_eq h.powered (goes.trans (jobStage_afterRead stage act asks lines free job)) (ended.trans h.ended)
    (by simp [Path.cutAsked, own]) (hold.trans h.holdDue) (restart.trans h.restartDue)

/-- The state in which the read of page 0 or of page 1 is acted on. -/
def afterRead (r : ReadResult 128) (a : Addr) (s : State) : State := setMirror (readMirror r a s.path.mirror) (clearLines s)

theorem OnlyAsks.afterRead (r : ReadResult 128) (a : Addr) (h : s.Settled) :
    OnlyAsks (afterRead r a s) (afterRead r a s) := .refl h.generation

/-- PAGE0_READ_DONE: page 0 is decided, and page 1 is read. -/
theorem page0ReadDone_next (r : ReadResult 128) {run : JobRun} (h : s.Settled) (own : s.path.owner = .own)
    (job : s.path.run = some run) (free : s.path.stopOwed = false) (stage : run.stage = .readPage0)
    (decided : decidePage0 (readBytes r) (afterRead r 0 s) = u) : exec (.page0ReadDone r) s = .next { u with
      lines := s.said none none [s.own (.read 128 128)]
      path := { s.path with
        run := some { run with stage := .readPage1 }, pollTime := 0, mirror := readMirror r 0 s.path.mirror
        jobs := u.path.jobs } } := by
  subst decided
  have frame : Frame [.path, .win, .eng, .sto, .sw, .tam, .log] (afterRead r 0 s)
    (decidePage0 (readBytes r) (afterRead r 0 s)) := by simp
  exact runCommand_afterRead h own free job (page0Read_eq r job stage free) ((OnlyAsks.afterRead r 0 h).decidePage0 _)
    (frame.lines (by decide)) (congrArg Supply.holdDue (frame.sup (by decide)))
    (congrArg Supply.restartDue (frame.sup (by decide)))

/-- PAGE1_READ_DONE while CONFIGURED: the calibration is decided, and slot A is read. -/
theorem page1ReadDone_next_configured (r : ReadResult 128) {run : JobRun} (h : s.Settled) (own : s.path.owner = .own)
    (job : s.path.run = some run) (free : s.path.stopOwed = false) (stage : run.stage = .readPage1)
    (decided : decidePage1 (readBytes r) (afterRead r 128 s) = u) (configured : u.win.configured = true) :
    exec (.page1ReadDone r) s = .next { u with
      lines := s.said none none [s.own (.read (u.slotAddress .a) 64)]
      path := { s.path with
        run := some { run with stage := .readSlotA }, pollTime := 0, mirror := readMirror r 128 s.path.mirror
        jobs := u.path.jobs } } := by
  subst decided
  have frame : Frame [.path, .win, .sto, .sw, .tam, .log] (afterRead r 128 s)
    (decidePage1 (readBytes r) (afterRead r 128 s)) := by simp
  exact runCommand_afterRead h own free job ((page1Read_eq r job stage free).trans (if_pos configured))
    ((OnlyAsks.afterRead r 128 h).decidePage1 _) (frame.lines (by decide))
    (congrArg Supply.holdDue (frame.sup (by decide))) (congrArg Supply.restartDue (frame.sup (by decide)))

/-- R150, R179: without a configuration the latches are loaded with no record's, and calibration is ordered. -/
def withoutLayout (s : State) : State :=
  (orderCalibration (loadLatches .cold s)).modSup fun p => { p with step := .coldCalRestore, restoreDone := false }

theorem withoutLayout_sup (s : State) :
    (withoutLayout s).sup = { s.sup with step := .coldCalRestore, restoreDone := false } := by
  have loads : Frame [.path, .sto, .sw, .tam, .log] s (loadLatches .cold s) := by simp
  rw [← loads.sup (by decide)]
  rfl

theorem OnlyAsks.withoutLayout (h : OnlyAsks s t) : OnlyAsks s (withoutLayout t) :=
  (h.loadLatches .cold).of_frame (l := [.smp, .sup]) (by simp [Machine.withoutLayout]) (by decide) (by decide)

/-- PAGE1_READ_DONE while UNCONFIGURED: the calibration is decided, the latches are loaded, and the job ends with its restore. -/
theorem page1ReadDone_next_unconfigured (r : ReadResult 128) {run : JobRun} (h : s.Settled) (own : s.path.owner = .own)
    (job : s.path.run = some run) (free : s.path.stopOwed = false) (stage : run.stage = .readPage1)
    (decided : decidePage1 (readBytes r) (afterRead r 128 s) = u) (unconfigured : u.win.configured = false) :
    exec (.page1ReadDone r) s = .next { withoutLayout u with
      lines := s.said none none [s.own (.write (s.path.hostPtr.getD 0) [])]
      path := { s.path with
        run := some { run with stage := .restore }, pollTime := 0, mirror := readMirror r 128 s.path.mirror
        jobs := (withoutLayout u).path.jobs } } := by
  have asks := ((OnlyAsks.afterRead r 128 h).decidePage1 (readBytes r)).withoutLayout
  have loads : Frame [.path, .win, .sto, .sw, .tam, .log] (afterRead r 128 s)
    (loadLatches .cold (decidePage1 (readBytes r) (afterRead r 128 s))) := by simp
  rw [decided] at asks loads
  have hold : (loadLatches .cold u).sup.holdDue = s.sup.holdDue := congrArg Supply.holdDue (loads.sup (by decide))
  have restart : (loadLatches .cold u).sup.restartDue = s.sup.restartDue :=
    congrArg Supply.restartDue (loads.sup (by decide))
  have pointer : (withoutLayout u).path.restoreAddr = s.path.hostPtr.getD 0 := by
    rw [Path.restoreAddr, asks.path]
    rfl
  have goes : page1Read r (clearLines s) = jobStage .restore (.write (s.path.hostPtr.getD 0) []) (withoutLayout u) := by
    rw [← pointer, ← decided]
    rw [← decided, ← Bool.not_eq_true] at unconfigured
    exact (page1Read_eq r job stage free).trans (if_neg unconfigured)
  exact runCommand_afterRead h own free job goes asks (loads.lines (by decide)) hold restart

/-- R24: what PAGE0_READ_DONE leaves where page 0 is valid. -/
theorem page0_valid_facts (r : ReadResult 128) {y : Layout} (h : s.Settled) (valid : (readBytes r).bind validLayout = some y)
    (decided : decidePage0 (readBytes r) (afterRead r 0 s) = u) :
    u.win = s.win.configure y ∧ u.log.ring = u.win.ring ∧ readMirror r 0 s.path.mirror = some 128 ∧
    u.tam.waiting = s.tam.waiting := by
  subst decided
  have reports := decidePage0_valid_reports (s := afterRead r 0 s) valid h.generation
  have frame : Frame [.path, .sto, .sw, .tam] (((afterRead r 0 s).modWin fun w => w.configure y).modLog
      fun g => { g with ring := (s.win.configure y).ring }) (decidePage0 (readBytes r) (afterRead r 0 s)) := by
    rw [decidePage0_valid valid]
    simp [afterRead, setMirror, clearLines]
  have win := frame.win (by decide)
  have ring := congrArg EventLog.ring (frame.log (by decide))
  refine ⟨win, ring.trans (by rw [win]; rfl), ?_, ?_⟩
  · cases r with
    | bytes v => rfl
    | selectNack | wordNack | readSelectNack => simp [readBytes] at valid
  · rw [reports.tamper]
    rfl

/-- R24, R26: what it leaves otherwise. -/
theorem page0_invalid_facts (r : ReadResult 128) (h : s.Settled) (invalid : (readBytes r).bind validLayout = none)
    (decided : decidePage0 (readBytes r) (afterRead r 0 s) = u) :
    u.win = s.win ∧ (u.log.queue = [] ∧ u.log.lost = 0 ∧ u.log.recovering = false) ∧
    (s.tam.loaded = false → u.tam.waiting = { s.tam.waiting with
      memory := s.tam.waiting.memory || (readBytes r).isNone || s.port.sealed }) ∧
    (s.tam.loaded = true → readBytes r = none ∨ s.port.sealed = true → u.tam.latches.memory ≠ .clear) := by
  subst decided
  have reports := decidePage0_invalid_reports (s := afterRead r 0 s) invalid h.generation
  have frame : Frame [.path, .eng, .sto, .sw, .tam] ((invalidPage (readBytes r).isNone (afterRead r 0 s)).modLog
      EventLog.withoutRing) (decidePage0 (readBytes r) (afterRead r 0 s)) := by
    rw [decidePage0_invalid invalid]
    simp
  have found : Frame [.path, .sto, .sw, .tam, .log] (afterRead r 0 s)
    (invalidPage (readBytes r).isNone (afterRead r 0 s)) := by simp
  have log := frame.log (by decide)
  refine ⟨(frame.win (by decide)).trans (found.win (by decide)), by rw [log]; exact ⟨rfl, rfl, rfl⟩, fun loaded => ?_,
    fun loaded failed => ?_⟩ <;> rw [reports.tamper]
  · rw [invalidPage_waiting (s := afterRead r 0 s) _ loaded, Bool.or_assoc]
    rfl
  · exact invalidPage_memory _ loaded (failed.imp_left Option.isNone_iff_eq_none.mpr) h.generation

/-- R24: what the read of page 0 can change. -/
theorem page0_frame (r : ReadResult 128) (h : s.Settled) (lines : Lines) (path : Path)
    (decided : decidePage0 (readBytes r) (afterRead r 0 s) = u) : { u with lines := lines, path := path } = { s with
      lines := lines
      path := path
      sto := { s.sto with waiting := u.sto.waiting, stage := u.sto.stage }
      eng := { s.eng with
        lowFlag := u.eng.lowFlag, repCredit := u.eng.repCredit, repLow := u.eng.repLow, repUnset := u.eng.repUnset }
      win := u.win, tam := u.tam, sw := u.sw, log := u.log } := by
  subst decided
  have asks := (OnlyAsks.afterRead r 0 h).decidePage0 (readBytes r)
  have frame : Frame [.path, .win, .eng, .sto, .sw, .tam, .log] (afterRead r 0 s)
    (decidePage0 (readBytes r) (afterRead r 0 s)) := by simp
  exact State.eq_of_blocks (frame.pins (by decide)) rfl rfl rfl (frame.smp (by decide)) (decidePage0_eng _ _) asks.store
    (frame.dec (by decide)) rfl rfl rfl (frame.sup (by decide)) (frame.port (by decide)) (frame.free (by decide))
    (frame.pending (by decide))

/-- R25, R150, R179: what the read of page 1 can change. -/
theorem page1_frame {r : ReadResult 128} {lines : Lines} {path : Path}
    (frame : Frame [.path, .win, .smp, .sto, .sw, .tam, .log, .sup] (afterRead r 128 s) u)
    (asks : OnlyAsks (afterRead r 128 s) u)
    (sup : u.sup = { s.sup with step := u.sup.step, restoreDone := u.sup.restoreDone }) :
    { u with lines := lines, path := path } = { s with
      lines := lines
      path := path
      win := u.win, smp := u.smp, tam := u.tam, sw := u.sw, log := u.log
      sto := { s.sto with waiting := u.sto.waiting, stage := u.sto.stage }
      sup := { s.sup with step := u.sup.step, restoreDone := u.sup.restoreDone } } :=
  State.eq_of_blocks (frame.pins (by decide)) rfl rfl rfl rfl (frame.eng (by decide)) asks.store
    (frame.dec (by decide)) rfl rfl rfl sup (frame.port (by decide)) (frame.free (by decide)) (frame.pending (by decide))

/-- R25: the calibration in force after the read of page 1. -/
theorem page1_win (r : ReadResult 128) (s : State) : (decidePage1 (readBytes r) (afterRead r 128 s)).win =
    match (readBytes r).bind validCalibration with
    | some c => { s.win with cal := c, calFromPage1 := true, page1Valid := true }
    | none => s.win := by
  cases h : (readBytes r).bind validCalibration with
  | some c =>
    rw [decidePage1_valid h]
    rfl
  | none =>
    rw [decidePage1_invalid h]
    exact Frame.win (s := afterRead r 128 s) (l := [.path, .sto, .sw, .tam, .log]) (by simp) (by decide)

/-- Settles O18, page by page: what a page decides, by the lemmas about `decidePage0` and `decidePage1`, and where the job goes on from
there. -/
theorem pagesDecideLayoutAndCalibration : Obligations.PagesDecideLayoutAndCalibration := by
  unfold Obligations.PagesDecideLayoutAndCalibration
  intro s r run settled own job free
  refine ⟨fun stage => ?page0, fun stage loaded => ?page1⟩
  case page0 =>
    obtain ⟨u, decided⟩ : ∃ u, decidePage0 (readBytes r) (afterRead r 0 s) = u := ⟨_, rfl⟩
    refine ⟨_, page0ReadDone_next r settled own job free stage decided, ?frame, ?valid, ?invalid⟩
    case frame => exact page0_frame r settled _ _ decided
    case valid => exact fun y valid => page0_valid_facts (u := u) r settled valid decided
    case invalid =>
      intro invalid
      obtain ⟨win, ⟨queue, lost, recovering⟩, waits, latched⟩ := page0_invalid_facts (u := u) r settled invalid decided
      exact ⟨win, queue, lost, recovering, waits, latched⟩
  case page1 =>
    obtain ⟨u, decided⟩ : ∃ u, decidePage1 (readBytes r) (afterRead r 128 s) = u := ⟨_, rfl⟩
    have asks := (OnlyAsks.afterRead r 128 settled).decidePage1 (readBytes r)
    obtain ⟨frame, tam⟩ := decidePage1_unloaded (s := afterRead r 128 s) (readBytes r) loaded
    have win := page1_win r s
    rw [decided] at asks frame tam win
    by_cases configured : s.win.configured = true
    case pos =>
      have kept : u.win.configured = true ∧ u.win.slotPage .a = s.win.slotPage .a := by
        rw [win]
        split <;> exact ⟨configured, rfl⟩
      refine ⟨_, page1ReadDone_next_configured r settled own job free stage decided kept.1,
        page1_frame (frame.mono (by decide)) asks ?sup, win,
        fun _ => ⟨rfl, frame.smp (by decide), frame.sup (by decide), ?slot, tam⟩, fun un => absurd configured (by simp [un])⟩
      case sup => rw [frame.sup (by decide)]; rfl
      case slot => rw [← kept.2]; rfl
    case neg =>
      rw [Bool.not_eq_true] at configured
      have unconfigured : u.win.configured = false := by
        rw [win]
        split <;> exact configured
      have goes : Frame [.path, .sto, .sw, .tam, .log, .smp, .sup] u (withoutLayout u) := by simp [withoutLayout]
      have sup : (withoutLayout u).sup = { s.sup with step := .coldCalRestore, restoreDone := false } := by
        rw [withoutLayout_sup, frame.sup (by decide)]
        rfl
      obtain ⟨isLoaded, waiting, latches⟩ := loadLatches_cold_tam asks.generation
      refine ⟨_, page1ReadDone_next_unconfigured r settled own job free stage decided unconfigured,
        page1_frame ((frame.mono (by decide)).trans (goes.mono (by decide))) asks.withoutLayout (by rw [sup]),
        (goes.win (by decide)).trans win, fun co => absurd configured (by simp [co]),
        fun _ => ⟨rfl, congrArg Supply.step sup, isLoaded, rfl, waiting, latches.trans ?_⟩⟩
      simp [placeLatches_cold_tam, tam, afterRead, setMirror, clearLines]

end
end Sys2Proof.Machine

namespace Sys2Proof.Machine

open Sys2Proof

/-! ## What a host byte does without the Supply Monitor

Nothing that a host byte does up to its end looks at the Supply Monitor, so a RESTART that waits there changes nothing of it
(R180). -/

section
variable (f : Supply → Supply) (s : State)

@[simp] theorem modPins_modSup (g : Pins → Pins) : (s.modSup f).modPins g = (s.modPins g).modSup f := rfl
@[simp] theorem modLines_modSup (g : Lines → Lines) : (s.modSup f).modLines g = (s.modLines g).modSup f := rfl
@[simp] theorem modPath_modSup (g : Path → Path) : (s.modSup f).modPath g = (s.modPath g).modSup f := rfl
@[simp] theorem modWin_modSup (g : WindowMap → WindowMap) : (s.modSup f).modWin g = (s.modWin g).modSup f := rfl
@[simp] theorem modSto_modSup (g : Store → Store) : (s.modSup f).modSto g = (s.modSto g).modSup f := rfl
@[simp] theorem modDec_modSup (g : Decoder → Decoder) : (s.modSup f).modDec g = (s.modDec g).modSup f := rfl
@[simp] theorem modSw_modSup (g : Switch → Switch) : (s.modSup f).modSw g = (s.modSw g).modSup f := rfl
@[simp] theorem modTam_modSup (g : Tamper → Tamper) : (s.modSup f).modTam g = (s.modTam g).modSup f := rfl
@[simp] theorem modLog_modSup (g : EventLog → EventLog) : (s.modSup f).modLog g = (s.modLog g).modSup f := rfl

@[simp] theorem ite_modSup (c : Prop) [Decidable c] (a b : State) :
    (if c then a.modSup f else b.modSup f) = (if c then a else b).modSup f := by
  split <;> rfl

/-! ### Lines, jobs, events and requests

`-implicitDefEqProofs` has simp carry the decision of a choice along with its condition, so that both sides choose alike. -/

@[simp] theorem emit_modSup (acts : List SegAct) : emit acts (s.modSup f) = (emit acts s).modSup f := rfl
@[simp] theorem answer_modSup (ack : Bool) : answer ack (s.modSup f) = (answer ack s).modSup f := rfl
@[simp] theorem give_modSup (b : Byte) : give b (s.modSup f) = (give b s).modSup f := rfl

@[simp] theorem releasedByte_modSup (dir : Dir) : releasedByte dir (s.modSup f) = (releasedByte dir s).modSup f := by
  cases dir <;> rfl

@[simp] theorem addJob_modSup (k : JobKind) : addJob k (s.modSup f) = (addJob k s).modSup f := by simp [addJob]

@[simp] theorem dropJob_modSup (k : JobKind) : dropJob k (s.modSup f) = (dropJob k s).modSup f := rfl

@[simp] theorem eventRec_modSup (k : EventKind) (d : Nat) (n : BitVec 32) : eventRec k d n (s.modSup f) = eventRec k d n s :=
  rfl

@[simp] theorem raiseEvent_modSup (k : EventKind) (d : Nat) :
    raiseEvent k d (s.modSup f) = (raiseEvent k d s).modSup f := by
  simp -implicitDefEqProofs [raiseEvent, queueEvent, countLost]

@[simp] theorem requestCommit_modSup (t : Trigger) : requestCommit t (s.modSup f) = (requestCommit t s).modSup f := by
  cases h : s.sto.waiting <;> simp [requestCommit, mergeRequest, h]

/-! ### Reports, latches and findings -/

@[simp] theorem bypassAbsent_modSup : bypassAbsent (s.modSup f) = (bypassAbsent s).modSup f := by
  simp [bypassAbsent, conditionAbsent]

@[simp] theorem startOperation_modSup (c : Bool) (o : Option Reason) :
    startOperation c o (s.modSup f) = (startOperation c o s).modSup f := by simp [startOperation]

@[simp] theorem enterReason_modSup (r : Reason) : enterReason r (s.modSup f) = (enterReason r s).modSup f := by
  simp -implicitDefEqProofs [enterReason]

@[simp] theorem overloadTrip_modSup : overloadTrip (s.modSup f) = (overloadTrip s).modSup f := by
  simp -implicitDefEqProofs [overloadTrip]

@[simp] theorem lastReasonLeft_modSup (r : Reason) : lastReasonLeft r (s.modSup f) = (lastReasonLeft r s).modSup f := by
  cases h : s.sw.relay <;> simp [lastReasonLeft, h]

@[simp] theorem follow_modSup (r : Reason) (b : Bool) : follow r b (s.modSup f) = (follow r b s).modSup f := by
  simp -implicitDefEqProofs [follow, reasonEnters, reasonLeaves]

@[simp] theorem followUnset_modSup (b : Bool) : followUnset b (s.modSup f) = (followUnset b s).modSup f := by
  simp [followUnset]

@[simp] theorem report_modSup (r : Report) : report r (s.modSup f) = (report r s).modSup f := by
  cases r <;> simp [report, takeReport]

@[simp] theorem latchFinding_modSup (b : Bool) (k : TamperKind) :
    latchFinding b k (s.modSup f) = (latchFinding b k s).modSup f := by
  simp [latchFinding, moveLatch, evalTrip]

@[simp] theorem finding_modSup (k : TamperKind) : finding k (s.modSup f) = (finding k s).modSup f := by simp [finding]

/-! ### The end of a host transaction -/

@[simp] theorem nextTurn_modSup : nextTurn (s.modSup f) = (nextTurn s).modSup f := by
  have judged : ∀ p, judge (s.modSup f) p = judge s p := fun _ => rfl
  cases ready : s.dec.ready with
  | none => simp [nextTurn, ready]
  | some p => cases turn : judge s p <;> simp [nextTurn, handOver, ready, judged, turn]

@[simp] theorem endSubmission_modSup (b : Bool) : endSubmission b (s.modSup f) = (endSubmission b s).modSup f := by
  cases h : ({ s.dec with refused := false } : Decoder).filling <;> simp [endSubmission, giveTurns, h]

@[simp] theorem stopSegment_modSup : stopSegment (s.modSup f) = (stopSegment s).modSup f := by
  simp -implicitDefEqProofs [stopSegment]

@[simp] theorem stopAny_modSup : stopAny (s.modSup f) = (stopAny s).modSup f := by
  simp -implicitDefEqProofs [stopAny]

@[simp] theorem stopAtData_modSup : stopAtData (s.modSup f) = (stopAtData s).modSup f := by simp [stopAtData]

@[simp] theorem endTransaction_modSup (b : Bool) : endTransaction b (s.modSup f) = (endTransaction b s).modSup f := by
  simp [endTransaction, dropSnapshots, mirrorAtEnd]

@[simp] theorem hostStopOp_modSup : hostStopOp (s.modSup f) = (hostStopOp s).modSup f := by
  simp [hostStopOp, endHost, releaseHost]

/-! ### The bytes -/

@[simp] theorem byteEnd_modSup : byteEnd (s.modSup f) = (byteEnd s).modSup f := rfl

@[simp] theorem carryAddress_modSup (m : Bool) (select : BitVec 7) (dir : Dir) (ack : Bool) :
    carryAddress m select dir ack (s.modSup f) = (carryAddress m select dir ack s).modSup f := by
  simp -implicitDefEqProofs [carryAddress, owedStop]

@[simp] theorem addressByteOp_modSup (select : BitVec 7) (dir : Dir) (ack : Bool) :
    addressByteOp select dir ack (s.modSup f) = (addressByteOp select dir ack s).modSup f := by
  have sorts : ∀ u : State, (u.modSup f).memoryClass select = u.memoryClass select := fun _ => rfl
  simp [addressByteOp, takeSegment, refuseAddress, sorts]

@[simp] theorem foreignByteOp_modSup (byte : Byte) (ack : Bool) :
    foreignByteOp byte ack (s.modSup f) = (foreignByteOp byte ack s).modSup f := by
  cases h : s.path.phase <;> simp [foreignByteOp, releasedForeign, h]

@[simp] theorem wordAddressByteOp_modSup (byte : Byte) (ack : Bool) :
    wordAddressByteOp byte ack (s.modSup f) = (wordAddressByteOp byte ack s).modSup f := by
  cases h : s.path.phase <;> simp [wordAddressByteOp, setWordAddress, h]

theorem inboxFirst_modSup (n : Nat) (b : Byte) :
    inboxFirst n b (s.modSup f) = ((inboxFirst n b s).1, (inboxFirst n b s).2.modSup f) := by
  simp -implicitDefEqProofs only [inboxFirst, State.modSup_dec]
  split <;> rfl

theorem inboxLater_modSup (b : Byte) :
    inboxLater b (s.modSup f) = ((inboxLater b s).1, (inboxLater b s).2.modSup f) := by
  simp -implicitDefEqProofs only [inboxLater, State.modSup_dec]
  split
  · rfl
  · split
    · rfl
    · split <;> rfl

@[simp] theorem inboxDataByte_modSup (first : Bool) (byte : Byte) :
    inboxDataByte first byte (s.modSup f) = (inboxDataByte first byte s).modSup f := by
  cases first <;> simp [inboxDataByte, inboxFirst_modSup, inboxLater_modSup]

@[simp] theorem guardedDataByte_modSup (first : Bool) :
    guardedDataByte first (s.modSup f) = (guardedDataByte first s).modSup f := by simp [guardedDataByte]

@[simp] theorem windowDataByte_modSup (first : Bool) (byte : Byte) (ack : Bool) :
    windowDataByte first byte ack (s.modSup f) = (windowDataByte first byte ack s).modSup f := by
  rcases h : s.path.window with _ | w
  · simp [windowDataByte, h]
  · cases w <;> simp [windowDataByte, openDataByte, h]

@[simp] theorem hostWriteDataByteOp_modSup (byte : Byte) (ack : Bool) :
    hostWriteDataByteOp byte ack (s.modSup f) = (hostWriteDataByteOp byte ack s).modSup f := by
  cases h : s.path.phase <;> simp [hostWriteDataByteOp, h]

@[simp] theorem giveRead_modSup (a : Addr) (byte : Byte) : giveRead a byte (s.modSup f) = (giveRead a byte s).modSup f := by
  have live : liveView (s.modSup f) = liveView s := rfl
  have outcomes : outcomeView (s.modSup f) = outcomeView s := rfl
  cases h : s.win.windowOf (pageOf a) <;> simp [giveRead, giveLive, giveOutcome, live, outcomes, h]

@[simp] theorem readDataByte_modSup (byte : Byte) (ack : Bool) :
    readDataByte byte ack (s.modSup f) = (readDataByte byte ack s).modSup f := by
  cases h : s.path.mirror <;> simp [readDataByte, h]

@[simp] theorem hostReadDataByteOp_modSup (byte : Byte) (ack : Bool) :
    hostReadDataByteOp byte ack (s.modSup f) = (hostReadDataByteOp byte ack s).modSup f := by
  simp only [hostReadDataByteOp, State.modSup_path]
  split <;> simp

end

/-! ## What a host byte asks for -/

/-- No cut is asked for, and no commit request is ended at the end of the generations. -/
def State.Calm (s : State) : Prop :=
  s.sto.ended = [] ∧ s.sto.generationEnded = false ∧ s.path.cutPending = false ∧
    (s.path.owner = .host → s.path.holdTime < ms 50)

section
variable {s t : State}

theorem State.Settled.calm (h : s.Settled) : s.Calm := ⟨h.ended, h.generation, h.cutPending, h.limit⟩

theorem State.Calm.ended (h : s.Calm) : s.sto.ended = [] := by
  obtain ⟨ended, -, -, -⟩ := h
  exact ended

theorem State.Calm.generation (h : s.Calm) : s.sto.generationEnded = false := by
  obtain ⟨-, generation, -, -⟩ := h
  exact generation

theorem State.Calm.cutAsked (h : s.Calm) : s.path.cutAsked = false := by
  obtain ⟨-, -, pending, limit⟩ := h
  by_cases owner : s.path.owner = .host
  · simp [Path.cutAsked, pending, limit owner]
  · simp [Path.cutAsked, owner]

theorem State.Calm.of_onlyAsks (h : s.Calm) (asks : OnlyAsks s t) : t.Calm := by
  obtain ⟨ended, -, pending, limit⟩ := h
  refine ⟨?_, asks.generation, ?_, ?_⟩
  · rw [asks.store]
    exact ended
  · rw [asks.path]
    exact pending
  · rw [asks.path]
    exact limit

theorem State.Calm.requestCommit (a : Trigger) (h : s.Calm) : (requestCommit a s).Calm :=
  h.of_onlyAsks ((OnlyAsks.refl h.generation).requestCommit a)

theorem State.Calm.nextTurn (h : s.Calm) : (nextTurn s).Calm := by
  unfold Machine.nextTurn
  repeat' split
  · exact h
  · exact h
  · exact h
  · exact State.Calm.requestCommit _ h

theorem State.Calm.endSubmission (b : Bool) (h : s.Calm) : (endSubmission b s).Calm := by
  unfold Machine.endSubmission
  dsimp only
  split
  · exact h
  · exact State.Calm.nextTurn (State.Calm.nextTurn h)

theorem State.Calm.endTransaction (b : Bool) (h : s.Calm) : (endTransaction b s).Calm := by
  have told : (if s.path.window = some .inbox then Machine.endSubmission b s else s).Calm := by
    split
    · exact h.endSubmission b
    · exact h
  exact told

theorem State.Calm.stopSegment (h : s.Calm) : (stopSegment s).Calm := by
  unfold Machine.stopSegment
  split <;> exact h

theorem State.Calm.hostStopOp (h : s.Calm) : (hostStopOp s).Calm := by
  unfold Machine.hostStopOp
  split
  · obtain ⟨ended, generation, -, -⟩ := (h.endTransaction false).stopSegment
    exact ⟨ended, generation, rfl, nofun⟩
  · exact h

theorem State.Calm.takeSegment (h : s.Calm) : (takeSegment s).Calm := by
  unfold Machine.takeSegment
  split
  · obtain ⟨ended, generation, pending, -⟩ := h
    exact ⟨ended, generation, pending, fun _ => show 0 < ms 50 by decide⟩
  · exact h

theorem State.Calm.carryAddress (m : Bool) (select : BitVec 7) (dir : Dir) (ack : Bool) (h : s.Calm) :
    (carryAddress m select dir ack s).Calm := by
  have stopped : (owedStop s).Calm := by
    unfold owedStop
    split <;> exact h
  exact stopped

theorem State.Calm.addressByteOp (select : BitVec 7) (dir : Dir) (ack : Bool) (h : s.Calm) :
    (addressByteOp select dir ack s).Calm := by
  have told : (if s.path.owner = .host then Machine.endTransaction false s else s).Calm := by
    split
    · exact h.endTransaction _
    · exact h
  unfold Machine.addressByteOp
  generalize (if s.path.owner = .host then Machine.endTransaction false s else s) = u at told ⊢
  dsimp only
  split
  · exact told
  · split
    · exact told.takeSegment
    · exact told.takeSegment.carryAddress _ _ _ _

theorem State.Calm.foreignByteOp (byte : Byte) (ack : Bool) (h : s.Calm) : (foreignByteOp byte ack s).Calm := by
  unfold Machine.foreignByteOp
  split <;> exact h

theorem State.Calm.wordAddressByteOp (byte : Byte) (ack : Bool) (h : s.Calm) : (wordAddressByteOp byte ack s).Calm := by
  unfold Machine.wordAddressByteOp
  split
  · exact h
  · dsimp only
    split <;> exact h
  · exact h

theorem State.Calm.stopAtData (h : s.Calm) : (stopAtData s).Calm := h.stopSegment

theorem State.Calm.inboxDataByte (first : Bool) (byte : Byte) (h : s.Calm) : (inboxDataByte first byte s).Calm := by
  have taken : (if first then inboxFirst (offsetOf s.path.wordAddr) byte (Machine.stopAtData s) else inboxLater byte s).2.Calm := by
    split
    · unfold inboxFirst
      split <;> exact h.stopAtData
    · unfold inboxLater
      repeat' split
      all_goals exact h
  exact taken

theorem State.Calm.guardedDataByte (first : Bool) (h : s.Calm) : (guardedDataByte first s).Calm := by
  have found : (if first then finding .path (Machine.stopAtData s) else s).Calm := by
    split
    · exact h.stopAtData.of_onlyAsks ((OnlyAsks.refl h.stopAtData.generation).finding .path)
    · exact h
  exact found

theorem State.Calm.windowDataByte (first : Bool) (byte : Byte) (ack : Bool) (h : s.Calm) :
    (windowDataByte first byte ack s).Calm := by
  unfold Machine.windowDataByte
  split
  case h_1 => exact h
  case h_2 => exact h.inboxDataByte _ _
  case h_9 => exact h
  all_goals exact h.guardedDataByte _

theorem State.Calm.hostWriteDataByteOp (byte : Byte) (ack : Bool) (h : s.Calm) : (hostWriteDataByteOp byte ack s).Calm := by
  unfold Machine.hostWriteDataByteOp
  split
  · exact h.windowDataByte _ _ _
  · exact h.windowDataByte _ _ _
  · exact h

theorem State.Calm.readDataByte (byte : Byte) (ack : Bool) (h : s.Calm) : (readDataByte byte ack s).Calm := by
  unfold Machine.readDataByte giveRead
  dsimp only
  repeat' split
  all_goals exact h

theorem State.Calm.hostReadDataByteOp (byte : Byte) (ack : Bool) (h : s.Calm) : (hostReadDataByteOp byte ack s).Calm := by
  unfold Machine.hostReadDataByteOp
  split
  · exact h.readDataByte _ _
  · exact h.readDataByte _ _
  · exact h

/-! ## A RESTART that waits for the end of a host byte (R180) -/

/-- What the bytes and the STOP of the host have in common: they do not look at the Supply Monitor, ask for no cut, and leave the
Supply Monitor and the port as they are. -/
structure ByteOp (op : State → State) : Prop where
  blind : ∀ f s, op (s.modSup f) = (op s).modSup f
  calm : ∀ s : State, s.Calm → (op s).Calm
  frame : ∀ s, Frame [.lines, .path, .win, .sto, .dec, .sw, .tam, .log] s (op s)

/-- The six commands by which a host byte, or a STOP after it, ends. -/
theorem exec_byteOp {select : BitVec 7} {dir : Dir} {byte : Byte} {ack : Bool} {c : Instr}
    (h : c = .addressByte select dir ack ∨ c = .wordAddressByte byte ack ∨ c = .hostWriteDataByte byte ack ∨
      c = .hostReadDataByte byte ack ∨ c = .foreignByte byte ack ∨ c = .hostStop) :
    ∃ op, ByteOp op ∧ ∀ s, exec c s = runCommand (fun s => op (byteEnd s)) s := by
  rcases h with rfl | rfl | rfl | rfl | rfl | rfl
  · exact ⟨addressByteOp select dir ack,
      ⟨fun _ _ => addressByteOp_modSup .., fun _ => State.Calm.addressByteOp select dir ack, by simp⟩, fun _ => rfl⟩
  · exact ⟨wordAddressByteOp byte ack,
      ⟨fun _ _ => wordAddressByteOp_modSup .., fun _ => State.Calm.wordAddressByteOp byte ack, by simp⟩, fun _ => rfl⟩
  · exact ⟨hostWriteDataByteOp byte ack,
      ⟨fun _ _ => hostWriteDataByteOp_modSup .., fun _ => State.Calm.hostWriteDataByteOp byte ack, by simp⟩, fun _ => rfl⟩
  · exact ⟨hostReadDataByteOp byte ack,
      ⟨fun _ _ => hostReadDataByteOp_modSup .., fun _ => State.Calm.hostReadDataByteOp byte ack, by simp⟩, fun _ => rfl⟩
  · exact ⟨foreignByteOp byte ack,
      ⟨fun _ _ => foreignByteOp_modSup .., fun _ => State.Calm.foreignByteOp byte ack, by simp⟩, fun _ => rfl⟩
  · exact ⟨hostStopOp, ⟨fun _ _ => hostStopOp_modSup .., fun _ => State.Calm.hostStopOp, by simp⟩, fun _ => rfl⟩

/-- After an operation that asks for nothing, only a RESTART that waits is left to take. -/
theorem finish_calm (h : s.Calm) (hold : s.sup.holdDue = false) : finish s = takeRestart s := by
  simp [finish, concludeEnded_nil, h.ended, takeCut, h.cutAsked, takeHold, hold]

/-- R180: a RESTART has been accepted and waits. -/
def Supply.awaitRestart (p : Supply) : Supply := { p with restartDue := true }

/-- The cold start does not look at whether the RESTART has waited. -/
theorem restart_awaitRestart (s : State) : restart (s.modSup Supply.awaitRestart) = restart s := by
  rw [restart, stopAny_modSup]
  rfl

/-- R180, log entry 36: a RESTART that waits is taken at the end of the byte, after what the byte does. -/
theorem ByteOp.restarts {op : State → State} (h : ByteOp op) (settled : s.Settled) :
    ∃ u, runCommand (fun s => op (byteEnd s)) s = .next u ∧ u.port = s.port ∧
      runCommand (fun s => op (byteEnd s)) (s.modSup Supply.awaitRestart) = .next (restart u) := by
  have calm : (op (byteEnd (clearLines s))).Calm := h.calm _ settled.calm
  have frame := h.frame (byteEnd (clearLines s))
  have sup : (op (byteEnd (clearLines s))).sup = s.sup := frame.sup (by decide)
  have pins : (op (byteEnd (clearLines s))).pins.midByte = false := congrArg Pins.midByte (frame.pins (by decide))
  refine ⟨op (byteEnd (clearLines s)), ?_, frame.port (by decide), ?_⟩
  · exact runCommand_eq settled.powered rfl calm.ended calm.cutAsked (by rw [sup, settled.holdDue])
      (by rw [sup, settled.restartDue])
  · have byte : op (byteEnd (clearLines (s.modSup Supply.awaitRestart))) =
        (op (byteEnd (clearLines s))).modSup Supply.awaitRestart := h.blind Supply.awaitRestart (byteEnd (clearLines s))
    rw [runCommand, if_pos (show (s.modSup Supply.awaitRestart).sup.powered = true from settled.powered), byte,
      finish_calm (s := State.modSup _ _) calm (by rw [State.modSup_sup, sup]; exact settled.holdDue), takeRestart,
      if_pos (by simp [Supply.awaitRestart, pins]), restart_awaitRestart]

/-- R179, R180: a RESTART leaves every block at its cold-start value but for the key store, the frame and the crystal's count; the
transaction on the memory segment is ended with STOP, and a host transaction in progress meets released lines. -/
theorem restart_eq {u : State} {port : Port} (ended : u.port.atColdStart = port) : restart u = { State.reset with
    pins := u.pins
    lines := { u.lines with seg := u.lines.seg ++ (if u.path.segOpen = true ∨ u.path.run.isSome = true then [.stop] else []) }
    path := { Path.cold u.pins.strap with phase := if u.path.phase = .idle then .idle else .refused }
    dec := { State.reset.dec with key := u.dec.key }
    port := port
    sup := { State.reset.sup with subSec := u.sup.subSec }
    free := u.free, pending := u.pending } := by
  subst ended
  by_cases held : u.path.segOpen = true ∨ u.path.run.isSome = true
  · rw [restart, stopAny, if_pos (Bool.or_eq_true_iff.mpr held), if_pos held]
    rfl
  · rw [restart, stopAny, if_neg (held ∘ Bool.or_eq_true_iff.mp), if_neg held, List.append_nil]
    rfl

/-! ## PAGE and RESTART before sealing (R185, R186) -/

/-- The port once an instruction with no reply has been taken. -/
def Port.took (p : Port) : Port := { p with taken := p.frame }

/-- An instruction with no reply is taken where no other has been taken in its frame (log entry 19). -/
theorem portTake_took {op : State → State} (h : s.port.frame = false ∨ s.port.taken = false) :
    portTake op s = op s := by
  unfold portTake
  rw [if_pos]
  rcases h with h | h <;> simp [Port.takes, h]

theorem replied_nil (s : State) : replied [] s = s.modPort Port.took := by
  simp only [replied, List.map_nil, List.flatten_nil, List.append_nil]
  rfl

/-- R185: PAGE before sealing, with no other PAGE pending. -/
theorem pageOp_unsealed (number : Byte) (data : List Byte) (unsealed : s.port.sealed = false)
    (idle : s.port.pagePending = false) : pageOp number data s =
      if 2 ≤ number.toNat then setResult .badArgument (s.modPort Port.took)
      else if s.sup.phase = .running then acceptPage number.toNat data (s.modPort Port.took)
      else setResult .notReady (s.modPort Port.took) := by
  rw [pageOp, replied_nil]
  by_cases large : 2 ≤ number.toNat
  · simp [Port.took, unsealed, idle, large]
  · by_cases phase : s.sup.phase = .running <;> simp [Port.took, unsealed, idle, large, phase]

/-- R186: RESTART before sealing, with no PAGE pending. -/
theorem restartOp_unsealed (unsealed : s.port.sealed = false) (idle : s.port.pagePending = false) :
    restartOp s = askRestart (setResult .ok (s.modPort Port.took)) := by
  rw [restartOp, replied_nil]
  simp [Port.took, unsealed, idle]

/-- R3: a job asked for waits once. -/
theorem addJob_eq (k : JobKind) (s : State) : addJob k s = { s with path := { s.path with jobs := s.path.withJob k } } := by
  by_cases waits : k ∈ s.path.jobs
  · rw [addJob, if_pos (List.contains_iff_mem.mpr waits), Path.withJob, if_pos waits]
  · rw [addJob, if_neg (waits ∘ List.contains_iff_mem.mp), Path.withJob, if_neg waits]
    rfl

/-- R185: what an accepted PAGE changes. -/
theorem acceptPage_eq (number : Byte) (data : List Byte) (s : State) : acceptPage number.toNat data s = { s with
    port := { s.port with
      last := .pending, pagePending := true, pageNo := number.toNat, pageData := data, pageResult := .writeFailed }
    win := if number = 0 then { s.win with page0Valid := false } else { s.win with page1Valid := false }
    path := { s.path with causePage := true, jobs := s.path.withJob .pageWrite } } := by
  have zero : number.toNat = 0 ↔ number = 0 := BitVec.toNat_inj (y := 0)
  rw [acceptPage, addJob_eq]
  by_cases h : number = 0
  · simp only [clearPageValid, if_pos h, if_pos (zero.mpr h)]
    rfl
  · simp only [clearPageValid, if_neg h, if_neg (h ∘ zero.mp)]
    rfl

/-- R185, R186: a PAGE before sealing. -/
theorem exec_page (number : Byte) (data : Vector Byte 128) (settled : s.Settled)
    (takes : s.port.frame = false ∨ s.port.taken = false) (run : pageOp number data.toList (clearLines s) = t)
    (calm : t.Calm) (sup : t.sup = s.sup) : exec (.page number data) s = .next t :=
  runCommand_eq settled.powered ((portTake_took (s := clearLines s) takes).trans run) calm.ended calm.cutAsked
    (by rw [sup, settled.holdDue]) (by rw [sup, settled.restartDue])

/-- R180: RESTART before sealing, with the upstream segment between bytes. -/
theorem exec_restart_between (settled : s.Settled) (unsealed : s.port.sealed = false) (idle : s.port.pagePending = false)
    (takes : s.port.frame = false ∨ s.port.taken = false) (between : s.pins.midByte = false) :
    exec .restart s = .next (restart (setResult .ok ((clearLines s).modPort Port.took))) := by
  have run : portTake restartOp (clearLines s) = restart (setResult .ok ((clearLines s).modPort Port.took)) := by
    rw [portTake_took (s := clearLines s) takes, restartOp_unsealed (s := clearLines s) unsealed idle, askRestart]
    exact if_neg (Bool.eq_false_iff.mp between)
  exact runCommand_eq settled.powered run rfl rfl rfl rfl

/-- R180: in the middle of a host byte it waits. -/
theorem exec_restart_midByte (settled : s.Settled) (unsealed : s.port.sealed = false) (idle : s.port.pagePending = false)
    (takes : s.port.frame = false ∨ s.port.taken = false) (mid : s.pins.midByte = true) :
    exec .restart s = .next ((setResult .ok ((clearLines s).modPort Port.took)).modSup Supply.awaitRestart) := by
  have run : portTake restartOp (clearLines s) =
      (setResult .ok ((clearLines s).modPort Port.took)).modSup Supply.awaitRestart := by
    rw [portTake_took (s := clearLines s) takes, restartOp_unsealed (s := clearLines s) unsealed idle, askRestart]
    exact if_pos mid
  have calm : ((setResult .ok ((clearLines s).modPort Port.took)).modSup Supply.awaitRestart).Calm := settled.calm
  show runCommand (portTake restartOp) s = _
  rw [runCommand, if_pos settled.powered, run, finish_calm calm settled.holdDue, takeRestart, if_neg]
  simp [setResult, clearLines, mid]

/-- A quiet state stays quiet at the end of a byte that the part answers by itself. -/
theorem runCommand_byte {op : State → State} {ack : Option Bool} {byte : Option Byte} (quiet : s.Quiet)
    (run : op (byteEnd (clearLines s)) = { s with lines := s.said ack byte [], pins := s.byteOver }) :
    runCommand (fun s => op (byteEnd s)) s = .next { s with lines := s.said ack byte [], pins := s.byteOver } :=
  runCommand_eq quiet.powered run quiet.ended quiet.cutAsked quiet.holdDue quiet.restartDue

/-- R16, R180: the bytes of a transaction that the part no longer carries meet released lines. -/
theorem bytes_released (quiet : s.Quiet) (refused : s.path.phase = .refused) (byte : Byte) (ack : Bool) :
    exec (.hostWriteDataByte byte ack) s = .next { s with lines := s.said (some false) none [], pins := s.byteOver } ∧
    exec (.hostReadDataByte byte ack) s = .next { s with lines := s.said none (some 0xFF) [], pins := s.byteOver } ∧
    exec (.foreignByte byte ack) s = .next { s with lines := s.said (some false) (some 0xFF) [], pins := s.byteOver } := by
  have phase : (byteEnd (clearLines s)).path.phase = .refused := refused
  refine ⟨runCommand_byte (op := hostWriteDataByteOp byte ack) quiet ?write,
    runCommand_byte (op := hostReadDataByteOp byte ack) quiet ?read,
    runCommand_byte (op := foreignByteOp byte ack) quiet ?foreign⟩
  case write =>
    rw [hostWriteDataByteOp, phase]
    rfl
  case read =>
    rw [hostReadDataByteOp, phase]
    rfl
  case foreign =>
    rw [foreignByteOp, phase]
    rfl

/-- Settles O53: PAGE by its refusals, RESTART between bytes and within one. -/
theorem portPagesAndRestarts : Obligations.PortPagesAndRestarts := by
  unfold Obligations.PortPagesAndRestarts
  intro s number data settled unsealed idle takes p ends
  have page := pageOp_unsealed (s := clearLines s) number data.toList unsealed idle
  refine ⟨fun large => ?large, fun small phase => ?phase, fun small phase => ?accepted, ?restart⟩
  case large => exact exec_page number data settled takes (page.trans (if_pos large)) settled.calm rfl
  case phase =>
    exact exec_page number data settled takes (page.trans ((if_neg (by omega)).trans (if_neg phase))) settled.calm rfl
  case accepted =>
    exact exec_page number data settled takes
      (page.trans ((if_neg (by omega)).trans ((if_pos phase).trans (acceptPage_eq ..)))) settled.calm rfl
  case restart =>
    intro restarted asked
    refine ⟨fun between => ?between, fun mid => ⟨?waits, ?taken⟩, fun byte ack quiet => ?released⟩
    case between =>
      rw [exec_restart_between settled unsealed idle takes between]
      exact congrArg Host.Outcome.next (restart_eq (if_neg (Bool.eq_false_iff.mp idle)))
    case waits =>
      rw [exec_restart_midByte settled unsealed idle takes mid]
      have port : { s.port.took with last := .ok } = (asked false).port := by
        simp only [asked, p, Port.took, idle, Bool.false_eq_true, if_false]
      exact congrArg Host.Outcome.next
        (State.eq_of_blocks rfl rfl rfl rfl rfl rfl rfl rfl rfl rfl rfl rfl port rfl rfl)
    case taken =>
      intro pending select dir byte ack c hc
      obtain ⟨op, byteOp, runs⟩ := exec_byteOp hc
      have base : ({ asked pending with sup := { s.sup with restartDue := false } } : State).Settled :=
        ⟨⟨settled.powered, settled.ended, settled.holdDue, rfl, settled.cutPending, settled.holdLimit⟩, settled.limit,
          settled.generation⟩
      obtain ⟨u, next, port, restarts⟩ := byteOp.restarts base
      have page : u.port.pagePending = pending := congrArg Port.pagePending port
      refine ⟨u, (runs _).trans next, (runs _).trans (restarts.trans (congrArg Host.Outcome.next (restart_eq ?_)))⟩
      rw [Port.atColdStart, page]
    case released =>
      exact bytes_released quiet rfl byte ack

end
end Sys2Proof.Machine

namespace Sys2Proof.Machine

open Sys2Proof

/-! ## Commands that leave nothing owed -/

section
variable {f : State → State} {s t u : State}

/-- A quiet state stays quiet under a command that leaves the Path Unit, the Account Store and the Supply Monitor alone. -/
theorem runCommand_within (quiet : s.Quiet) (run : f (clearLines s) = t) (path : t.path = s.path) (sto : t.sto = s.sto)
    (sup : t.sup = s.sup) : runCommand f s = .next t :=
  runCommand_eq quiet.powered run (by rw [sto, quiet.ended]) (by rw [path, quiet.cutAsked]) (by rw [sup, quiet.holdDue])
    (by rw [sup, quiet.restartDue])

/-- A settled state stays calm under a command that asks for jobs and commits alone, and makes neither hold entry nor a RESTART
due. -/
theorem runCommand_asks (settled : s.Settled) (run : f (clearLines s) = t) (asks : OnlyAsks s t)
    (hold : t.sup.holdDue = s.sup.holdDue) (restart : t.sup.restartDue = s.sup.restartDue) : runCommand f s = .next t :=
  have calm := settled.calm.of_onlyAsks asks
  runCommand_eq settled.powered run calm.ended calm.cutAsked (hold.trans settled.holdDue) (restart.trans settled.restartDue)

/-! ## The Switch Controller, changed -/

theorem State.modSw_congr {f g : Switch → Switch} (h : f s.sw = g s.sw) : s.modSw f = s.modSw g := by
  rw [State.modSw, h]
  rfl

theorem State.modSw_eq_self {f : Switch → Switch} (h : f s.sw = s.sw) : s.modSw f = s := by rw [State.modSw, h]

/-! ## The zero-crossing filter (R52, R53) -/

/-- R133: a rising crossing ends a crossing wait. -/
theorem crossingEvent_eq (s : State) : crossingEvent s = s.modSw fun w => { w with op := w.op.map fun o => match o.step with
    | .crossingWait _ => { o with step := .delay (halfMs s.win.cal.zcDelay) }
    | .delay _ | .pulse _ | .settle _ | .capture | .retry => o } := by
  unfold crossingEvent
  cases op : s.sw.op with
  | none =>
    refine (State.modSw_eq_self ?_).symm
    simp only [op, Option.map_none]
    rw [← op]
  | some o =>
    dsimp only
    cases step : o.step with
    | crossingWait n =>
      show opStep (.delay (halfMs s.win.cal.zcDelay)) s = _
      refine State.modSw_congr ?_
      simp only [op, Option.map_some, step]
    | delay n | pulse n | settle n | capture | retry =>
      refine (State.modSw_eq_self ?_).symm
      simp only [op, Option.map_some, step]
      rw [← op]

/-- Settles O23, by the moves of the filter. -/
theorem zeroCrossingFilterMoves : Obligations.ZeroCrossingFilterMoves := by
  unfold Obligations.ZeroCrossingFilterMoves
  intro s high quiet locked
  refine ⟨fun moves => ?settles, fun low => ?rises, fun notLow => ?passes⟩
  case settles =>
    refine runCommand_within (f := zcSettle high) quiet ?_ rfl rfl rfl
    unfold zcSettle
    rw [if_pos (show (clearLines s).smp.loop = .locked from locked)]
    rcases moves with unsettled | ⟨isHigh, rfl⟩
    · rw [show (clearLines s).smp.zc = .unsettled from unsettled]
      cases high <;> rfl
    · rw [show (clearLines s).smp.zc = .high from isHigh]
      rfl
  case rises =>
    refine runCommand_within (f := risingCrossing) quiet ?_ rfl rfl rfl
    unfold risingCrossing
    rw [if_pos ⟨locked, low⟩, crossingEvent_eq]
    rfl
  case passes =>
    refine runCommand_within (f := risingCrossing) quiet ?_ rfl rfl rfl
    unfold risingCrossing
    rw [if_neg fun h => notLow h.2]
    rfl

/-! ## The steps of an attempt (R133 to R135, R145) -/

theorem captureAccepted_iff : captureAccepted s = true ↔ s.smp.capture = .idle ∧ s.sup.phase ≠ .held := by
  simp [captureAccepted]

/-- An operation goes on to a step. -/
theorem opStep_some {o : Operation} (step : OpStep) (op : s.sw.op = some o) :
    opStep step s = s.modSw fun w => { w with op := some { o with step := step } } := by
  simp [opStep, State.modSw, op]

/-- Settles O38, step by step of an attempt. -/
theorem attemptGoesOn : Obligations.AttemptGoesOn := by
  unfold Obligations.AttemptGoesOn
  intro s o n quiet clear goes accepted requested
  refine ⟨fun op => ?attempt, fun op check => ?check⟩
  case attempt =>
    have cleared : (clearLines s).sw.op = some o := op
    refine ⟨fun step => ?wait, fun step goesOn => ?pulse, fun step closing notEmpty => ?convert, fun step => ?settle,
      fun step => ?request, fun step => ?again⟩
    case wait =>
      refine runCommand_within (f := crossingTimeout) quiet ?_ rfl rfl rfl
      simp only [crossingTimeout, cleared, step]
      rfl
    case pulse =>
      refine runCommand_within (f := delayEnd) quiet ?_ rfl rfl rfl
      have pulses : ¬ ((clearLines s).sw.relay = .closing && !(clearLines s).sw.reasons.isEmpty) = true := by
        rw [Bool.and_eq_true, decide_eq_true_eq, Bool.not_eq_true', not_and_or, Bool.not_eq_false]
        exact goesOn
      simp only [delayEnd, cleared, step]
      rw [beginPulse, if_neg pulses, opStep_some _ cleared]
      rfl
    case convert =>
      refine runCommand_within (f := delayEnd) quiet ?_ rfl rfl rfl
      simp only [delayEnd, cleared, step]
      rw [beginPulse, if_pos (by simp [clearLines, closing, notEmpty])]
      rfl
    case settle =>
      refine runCommand_within (f := pulseEnd) quiet ?_ rfl rfl rfl
      simp only [pulseEnd, cleared, step]
      rw [opStep_some _ cleared]
      rfl
    case request =>
      have run : settleTimeEnd (clearLines s) =
          if accepted then requested (goes { o with step := .capture }) else goes { o with step := .retry } := by
        simp only [settleTimeEnd, cleared, step]
        by_cases h : accepted
        · rw [requestAttemptCapture, if_pos ((captureAccepted_iff (s := clearLines s)).mpr h), if_pos h,
            opStep_some _ (show (startCapture (clearLines s)).sw.op = some o from op)]
          rfl
        · rw [requestAttemptCapture, if_neg (h ∘ (captureAccepted_iff (s := clearLines s)).mp), if_neg h, opStep_some _ cleared]
          rfl
      refine runCommand_within quiet run ?_ ?_ ?_ <;> split <;> rfl
    case again =>
      have atStep : (clearLines s).sw.atStep .retry = true := by simp [Switch.atStep, cleared, step]
      have run : retryCapture (clearLines s) = if accepted then requested (goes { o with step := .capture }) else clear := by
        by_cases h : accepted
        · have idle := (captureAccepted_iff (s := clearLines s)).mpr h
          rw [retryCapture, if_neg (by simp [idle]), if_pos atStep, requestAttemptCapture, if_pos idle, if_pos h,
            opStep_some _ (show (startCapture (clearLines s)).sw.op = some o from op)]
          rfl
        · have busy := Bool.eq_false_iff.mpr (h ∘ (captureAccepted_iff (s := clearLines s)).mp)
          rw [retryCapture, if_pos (by simp [busy]), if_neg h]
          rfl
      refine runCommand_within quiet run ?_ ?_ ?_ <;> split <;> rfl
  case check =>
    have atStep : ¬ (clearLines s).sw.atStep .retry = true := by simp [Switch.atStep, clearLines, op]
    have run : retryCapture (clearLines s) =
        if accepted then requested { clear with sw := { s.sw with check := .waiting } } else clear := by
      by_cases h : accepted
      · have idle := (captureAccepted_iff (s := clearLines s)).mpr h
        rw [retryCapture, if_neg (by simp [idle]), if_neg atStep, if_pos (show (clearLines s).sw.check = .retry from check),
          requestCheck, if_pos idle, if_pos h]
        rfl
      · have busy := Bool.eq_false_iff.mpr (h ∘ (captureAccepted_iff (s := clearLines s)).mp)
        rw [retryCapture, if_pos (by simp [busy]), if_neg h]
        rfl
    refine runCommand_within quiet run ?_ ?_ ?_ <;> split <;> rfl

end
end Sys2Proof.Machine

namespace Sys2Proof.Machine

open Sys2Proof

section
variable {f : State → State} {s t u : State}

/-! ## Events that are logged (R165, R166) -/

@[simp] theorem addJob_log (k : JobKind) (s : State) : (addJob k s).log = s.log := by rw [addJob_eq]

theorem raiseEvent_logged (k : EventKind) (d : Nat) (h : s.LogsEvents) : raiseEvent k d s = queueEvent k d s := by
  simp [raiseEvent, h.recovered, Option.isSome_iff_ne_none.mp h.ring, h.room]

/-- R166: an event that is logged joins the queue, and takes the next number. -/
theorem raiseEvent_queue (k : EventKind) (d : Nat) (h : s.LogsEvents) :
    (raiseEvent k d s).log.queue = s.log.queue ++ [eventRec k d s.log.nextNo s] := by
  rw [raiseEvent_logged k d h, queueEvent]
  split <;> simp

/-- What an event records is of the Log Writer and of the Energy Engine alone. -/
theorem raiseEvent_queue_of (k : EventKind) (d : Nat) (h : s.LogsEvents) (log : t.log = s.log)
    (cumulative : t.eng.cumulative = s.eng.cumulative) (credit : t.eng.credit = s.eng.credit) :
    (raiseEvent k d t).log.queue = s.log.queue ++ [eventRec k d s.log.nextNo s] := by
  rw [raiseEvent_queue k d ⟨by rw [log, h.recovered], by rw [log, h.ring], by rw [log]; exact h.room⟩, log, eventRec,
    cumulative, credit]
  rfl

/-- R169: an event asks for an append at most. -/
theorem raiseEvent_log (k : EventKind) (d : Nat) (s : State) : (raiseEvent k d s).log = { s.log with
    queue := (raiseEvent k d s).log.queue, nextNo := (raiseEvent k d s).log.nextNo
    lost := (raiseEvent k d s).log.lost, stage := (raiseEvent k d s).log.stage } := by
  unfold raiseEvent countLost queueEvent
  repeat' split
  all_goals simp

/-! ## Lock and calibration (R39, R41) -/

/-- R41: an order kept from before begins calibration at lock. -/
theorem Sampling.beginOrdered_eq (m : Sampling) : m.beginOrdered =
    let begins := m.conv = .uncalibrated ∧ m.calOrdered = true
    { m with
      conv := if begins then .calibrating else m.conv
      calOrdered := if begins then false else m.calOrdered
      calTime := if begins then 0 else m.calTime } := by
  by_cases begins : m.conv = .uncalibrated ∧ m.calOrdered = true
  · simp [beginOrdered, begins]
  · simp only [beginOrdered, if_neg begins]
    rw [if_neg (by simpa [and_comm] using begins)]

/-- R41: an order that finds the loop LOCKED begins calibration. -/
theorem orderCalibration_locked (locked : s.smp.loop = .locked) : orderCalibration s = s.modSmp fun m =>
    { m with
      conv := if m.conv = .uncalibrated then .calibrating else m.conv
      calOrdered := if m.conv = .uncalibrated then false else m.calOrdered
      calTime := if m.conv = .uncalibrated then 0 else m.calTime } := by
  by_cases uncalibrated : s.smp.conv = .uncalibrated
  · simp [orderCalibration, State.modSmp, locked, uncalibrated]
  · simp [orderCalibration, State.modSmp, uncalibrated]

/-- R39, R41: the Sampling Unit at lock. -/
def Sampling.atLock (m : Sampling) (ordered : Prop) [Decidable ordered] : Sampling :=
  let begins := m.conv = .uncalibrated ∧ (m.calOrdered = true ∨ ordered)
  { m with
    loop := .locked, zc := .unsettled, zcCount := 0
    conv := if begins then .calibrating else m.conv
    calOrdered := if begins then false else m.calOrdered
    calTime := if begins then 0 else m.calTime }

theorem sequenceAtLock_eq (s : State) : sequenceAtLock s =
    if s.sup.step = .coldClocks then addJob .startUpReads (s.modSup fun p => { p with step := .coldReads })
    else if s.sup.step = .exitLock then orderCalibration (s.modSup fun p => { p with step := .exitCal })
    else s := by
  unfold sequenceAtLock
  cases step : s.sup.step <;> simp

theorem loopLock_eq (locking : s.smp.loop = .locking) : loopLock s = { s with
    smp := s.smp.atLock (s.sup.step = .exitLock)
    path := { s.path with jobs := if s.sup.step = .coldClocks then s.path.withJob .startUpReads else s.path.jobs }
    sup := { s.sup with
      step := if s.sup.step = .coldClocks then .coldReads else if s.sup.step = .exitLock then .exitCal else s.sup.step } } := by
  have smp : { s.smp.zcReset with loop := .locked }.beginOrdered = s.smp.atLock False := by
    simp [Sampling.beginOrdered_eq, Sampling.atLock, Sampling.zcReset]
  rw [loopLock, if_pos locking, sequenceAtLock_eq]
  simp only [State.modSmp_sup]
  by_cases cold : s.sup.step = .coldClocks
  · rw [if_pos cold, addJob_eq]
    simp [State.modSmp, State.modSup, Path.withJob, smp, cold]
  · by_cases exit : s.sup.step = .exitLock
    · rw [if_neg cold, if_pos exit, orderCalibration_locked (by simp [smp, Sampling.atLock])]
      by_cases uncalibrated : s.smp.conv = .uncalibrated <;> by_cases ordered : s.smp.calOrdered = true <;>
        simp [State.modSmp, State.modSup, smp, exit, Sampling.atLock, uncalibrated, ordered]
    · rw [if_neg cold, if_neg exit]
      simp [State.modSmp, smp, cold, exit]

theorem requestCheck_accepted (idle : s.smp.capture = .idle) (phase : s.sup.phase ≠ .held) :
    requestCheck s = (startCapture s).modSw fun w => { w with check := .waiting } :=
  if_pos (captureAccepted_iff.mpr ⟨idle, phase⟩)

theorem requestCheck_refused (h : ¬ (s.smp.capture = .idle ∧ s.sup.phase ≠ .held)) :
    requestCheck s = s.modSw fun w => { w with check := .retry } :=
  if_neg (h ∘ captureAccepted_iff.mp)

/-- R46: an accepted request leaves the capture WAITING; of the Sampling Unit no more than the capture changes. -/
theorem requestCheck_parts (s : State) : (requestCheck s).smp = { s.smp with
      capture := (requestCheck s).smp.capture, capCount := (requestCheck s).smp.capCount
      capMax := (requestCheck s).smp.capMax, capSum := (requestCheck s).smp.capSum } ∧
    (requestCheck s).sw = { s.sw with check := (requestCheck s).sw.check } := by
  by_cases h : s.smp.capture = .idle ∧ s.sup.phase ≠ .held
  · rw [requestCheck_accepted h.1 h.2]
    exact ⟨rfl, rfl⟩
  · rw [requestCheck_refused h]
    exact ⟨rfl, rfl⟩

/-- R179 steps 7 and 8. -/
theorem coldPowerUp_eq (step : s.sup.step = .coldCalRestore) (restored : s.sup.restoreDone = true)
    (calibrated : s.smp.conv = .calibrated) : coldPowerUp s =
      requestCheck ((raiseEvent .powerUp 1 s).modSup fun p => { p with step := .coldRelayCheck }) :=
  if_pos ⟨step, restored, calibrated⟩

/-- Settles O19: LOOP_LOCK by `loopLock_eq`, CALIBRATION_DONE by the step of the sequence. -/
theorem lockAndCalibrationGoOn : Obligations.LockAndCalibrationGoOn := by
  unfold Obligations.LockAndCalibrationGoOn
  intro s measured settled
  have quiet := settled.toQuiet
  let m := (clearLines s).modSmp fun x => x.calibrated measured
  have done : s.smp.conv = .calibrating → calibrationDone measured (clearLines s) = sequenceAtCalibration m :=
    fun calibrating => if_pos calibrating
  refine ⟨fun other => ?other, fun locking => ?lock, fun calibrating => ⟨fun exit => ?exit, fun notExit waits => ?waits,
    fun cold restored => ?cold⟩⟩
  case other => exact runCommand_within (f := loopLock) quiet (if_neg other) rfl rfl rfl
  case lock =>
    exact runCommand_asks (f := loopLock) settled (loopLock_eq (s := clearLines s) locking) ⟨settled.generation, rfl, rfl⟩
      rfl rfl
  case exit =>
    refine runCommand_asks (f := calibrationDone measured) settled ?_ ⟨settled.generation, rfl, rfl⟩ rfl rfl
    rw [done calibrating, sequenceAtCalibration, if_pos (show m.sup.step = .exitCal from exit), addJob_eq]
    rfl
  case waits =>
    refine runCommand_within (f := calibrationDone measured) quiet ?_ rfl rfl rfl
    rw [done calibrating, sequenceAtCalibration, if_neg (show ¬ m.sup.step = .exitCal from notExit), coldPowerUp, if_neg]
    · rfl
    · rintro ⟨step, restored, -⟩
      rcases waits with notCold | notRestored
      · exact notCold step
      · exact nomatch notRestored.symm.trans restored
  case cold =>
    let u := (raiseEvent .powerUp 1 m).modSup fun p => { p with step := .coldRelayCheck }
    have raised : Frame [.path, .log] m (raiseEvent .powerUp 1 m) := by simp
    have asks : OnlyAsks m (raiseEvent .powerUp 1 m) := (OnlyAsks.refl (s := m) settled.generation).raiseEvent _ _
    have requested : Frame [.smp, .sw] u (requestCheck u) := by simp
    have sup : u.sup = { s.sup with step := .coldRelayCheck } := by
      show ({ (raiseEvent .powerUp 1 m).sup with step := .coldRelayCheck } : Supply) = _
      rw [raised.sup (by decide)]
      rfl
    have run : calibrationDone measured (clearLines s) = requestCheck u := by
      rw [done calibrating, sequenceAtCalibration,
        if_neg (show ¬ m.sup.step = .exitCal from fun exit => nomatch cold.symm.trans exit),
        coldPowerUp_eq (s := m) cold restored rfl]
    have path : (requestCheck u).path = { s.path with jobs := (requestCheck u).path.jobs } := by
      rw [requested.path (by decide)]
      exact asks.path
    have sto : (requestCheck u).sto = s.sto := (requested.sto (by decide)).trans (raised.sto (by decide))
    have supply := (requested.sup (by decide)).trans sup
    obtain ⟨smp, sw⟩ := requestCheck_parts u
    refine ⟨requestCheck u, ?next, ?frame, fun idle phase => ?capture, fun logs => ?event⟩
    case next =>
      exact runCommand_asks settled run ⟨by rw [sto, settled.generation], path, by rw [sto]⟩ (by rw [supply]) (by rw [supply])
    case frame =>
      have before : Frame [.path, .log, .sup] m u := by simp [u]
      have all := (before.mono (m := [.path, .log, .sup, .smp, .sw]) (by decide)).trans (requested.mono (by decide))
      refine State.eq_of_blocks (all.pins (by decide)) (all.lines (by decide)) path (all.win (by decide)) ?_
        (all.eng (by decide)) (all.sto (by decide)) (all.dec (by decide)) ?_ (all.tam (by decide)) rfl supply
        (all.port (by decide)) (all.free (by decide)) (all.pending (by decide))
      · rw [smp, before.smp (by decide)]
        rfl
      · rw [sw, before.sw (by decide)]
        rfl
    case capture =>
      have isIdle : u.smp.capture = .idle := (congrArg Sampling.capture (raised.smp (by decide))).trans idle
      have notHeld : u.sup.phase ≠ .held := by rw [sup]; exact phase
      rw [requestCheck_accepted isIdle notHeld]
      exact ⟨rfl, rfl⟩
    case event =>
      rw [requested.log (by decide)]
      exact raiseEvent_queue _ _ ⟨logs.recovered, logs.ring, logs.room⟩

end
end Sys2Proof.Machine

namespace Sys2Proof.Machine

open Sys2Proof

section
variable {s t u : State}

/-! ## The warning clears, and the hold-exit check ends (R174, R178) -/

/-- R174: the warning is CLEAR. -/
def Supply.cleared (p : Supply) : Supply := { p with raised := false, belowTime := 0, aboveTime := 0 }

/-- R176: it does not clear where it is not RAISED, nor between the warning and hold entry. -/
theorem warningClear_stays (h : s.sup.raised = false ∨ s.sup.phase = .warned) : warningClear s = s := by
  rw [warningClear, if_pos]
  rcases h with h | h <;> simp [h]

theorem warningClear_held (raised : s.sup.raised = true) (held : s.sup.phase = .held) :
    warningClear s = beginHoldExit (s.modSup Supply.cleared) := by
  rw [warningClear, if_neg (by simp [raised, held])]
  simp only [State.modSup_sup, held]
  rfl

theorem warningClear_cold (raised : s.sup.raised = true) (starting : s.sup.phase = .starting)
    (step : s.sup.step = .coldClocks) : warningClear s = startLoop (s.modSup Supply.cleared) := by
  rw [warningClear, if_neg (by simp [raised, starting])]
  simp only [State.modSup_sup, starting, if_pos step]
  rfl

/-- R174: in the other phases, and at the later steps of a cold start, the warning clears alone. -/
theorem warningClear_alone (raised : s.sup.raised = true) (held : s.sup.phase ≠ .held) (warned : s.sup.phase ≠ .warned)
    (other : s.sup.phase ≠ .starting ∨ s.sup.step ≠ .coldClocks) : warningClear s = s.modSup Supply.cleared := by
  rw [warningClear, if_neg (by simp [raised, warned])]
  cases phase : s.sup.phase with
  | starting =>
    simp only [State.modSup_sup, phase, if_neg (other.resolve_left (absurd phase))]
    rfl
  | running | resuming =>
    simp only [State.modSup_sup, phase]
    rfl
  | warned => exact absurd phase warned
  | held => exact absurd phase held

/-- R178 step 1, R143, R145: hold exit begins, and the relay check is requested. -/
theorem beginHoldExit_eq (s : State) : beginHoldExit s = { s with
    sup := { s.sup with phase := .resuming, step := .exitLock }
    smp := if s.smp.capture = .idle then
        { s.smp with loop := .locking, capture := .waiting, capCount := 0, capMax := 0, capSum := 0 }
      else { s.smp with loop := .locking }
    sw := { s.sw with
      buttonOn := true, button := .unsettled, buttonTime := 0, lowcr := s.eng.lowFlag
      check := if s.smp.capture = .idle then .waiting else .retry } } := by
  let u := (startLoop (s.modSup fun p => { p with phase := .resuming, step := .exitLock })).modSw fun w =>
    { w with buttonOn := true, button := .unsettled, buttonTime := 0, lowcr := s.eng.lowFlag }
  show requestCheck u = _
  by_cases idle : s.smp.capture = .idle
  · refine (requestCheck_accepted (s := u) idle nofun).trans ?_
    rw [if_pos idle, if_pos idle]
    rfl
  · refine (requestCheck_refused (s := u) fun ⟨h, _⟩ => idle h).trans ?_
    rw [if_neg idle, if_neg idle]
    rfl

/-- R13: the restore of a START-UP READS job leaves the owner FREE, and the job's end is told to the Supply Monitor. -/
theorem restoreEnd_startUpReads (ok : Bool) (job : s.path.run = some { kind := .startUpReads, stage := .restore }) :
    restoreEnd ok s = readsEnded (restorePointers ok .startUpReads
      (s.modPath fun p => { p with run := none, owner := .free, behind := [], pollTime := 0 })) := by
  simp [restoreEnd, job, jobEnded]

/-- R13: the pointers after a restore, which a failed one makes a job of its own. -/
theorem restorePointers_path (ok : Bool) (s : State) : (restorePointers ok .startUpReads s).path = { s.path with
    mirror := (restorePointers ok .startUpReads s).path.mirror, hostPtr := (restorePointers ok .startUpReads s).path.hostPtr
    jobs := (restorePointers ok .startUpReads s).path.jobs } := by
  cases ok with
  | true => rfl
  | false =>
    simp only [restorePointers, setMirror]
    rw [if_neg (by decide), if_neg (by decide), addJob_eq]
    rfl

/-- R178 steps 4 to 6: the POWER_UP event, and the drain. -/
theorem exitPowerUp_parts (s : State) :
    let u := raiseEvent .powerUp 2 (s.modSup fun p => { p with step := .exitDrain })
    (u.log.queue ≠ [] → exitPowerUp s = u) ∧
    (u.log.queue = [] → exitPowerUp s =
      (u.modPath fun p => { p with causePower := false }).modSup fun p => { p with phase := .running, step := .noStep }) := by
  intro u
  have step : u.sup.step = .exitDrain :=
    congrArg Supply.step (Frame.sup (l := [.path, .log]) (s := s.modSup fun p => { p with step := .exitDrain }) (by simp [u])
      (by decide))
  exact ⟨fun waits => if_neg fun empty => waits (List.isEmpty_iff.mp empty),
    fun empty => (if_pos (List.isEmpty_iff.mpr empty)).trans (if_pos step)⟩

/-- Settles O49: WARNING_CLEAR by `warningClear_eq`, the end of the check by the drain. -/
theorem holdExitBegins : Obligations.HoldExitBegins := by
  unfold Obligations.HoldExitBegins
  intro s ok settled sup
  have quiet := settled.toQuiet
  have clears : ∀ {t}, warningClear (clearLines s) = t → t.path = s.path → t.sto = s.sto →
      t.sup.holdDue = s.sup.holdDue → t.sup.restartDue = s.sup.restartDue → exec .warningClear s = .next t := by
    intro t run path sto hold restart
    exact runCommand_asks (f := warningClear) settled run ⟨by rw [sto, settled.generation], by rw [path], by rw [sto]⟩ hold
      restart
  refine ⟨fun stays => ?stays, fun raised held => ?exit, fun raised starting step => ?cold,
    fun raised notHeld notWarned other => ?alone, fun own job free check => ?check⟩
  case stays => exact clears (warningClear_stays (s := clearLines s) stays) rfl rfl rfl rfl
  case exit =>
    exact clears ((warningClear_held (s := clearLines s) raised held).trans (beginHoldExit_eq _)) rfl rfl rfl rfl
  case cold => exact clears (warningClear_cold (s := clearLines s) raised starting step) rfl rfl rfl rfl
  case alone => exact clears (warningClear_alone (s := clearLines s) raised notHeld notWarned other) rfl rfl rfl rfl
  case check =>
    let m := restorePointers ok .startUpReads
      ((clearLines s).modPath fun p => { p with run := none, owner := .free, behind := [], pollTime := 0 })
    let drains := m.modSup fun p => { p with step := .exitDrain }
    let u := raiseEvent .powerUp 2 drains
    have pointers : Frame [.path] (clearLines s) m := by simp [m]
    have raised : Frame [.path, .log] drains u := by simp [u]
    have path : u.path = { s.path with
        owner := .free, run := none, behind := [], pollTime := 0, mirror := u.path.mirror, hostPtr := u.path.hostPtr
        jobs := u.path.jobs } := by
      have generation := (congrArg Store.generationEnded (pointers.sto (by decide))).trans settled.generation
      have asks : OnlyAsks drains u := (OnlyAsks.refl (s := drains) generation).raiseEvent .powerUp 2
      have restored : m.path = _ := restorePointers_path ok _
      rw [asks.path, show drains.path = m.path from rfl, restored]
      rfl
    have run : pointerRestoreEnd ok (clearLines s) = exitPowerUp m := by
      have step : m.sup.step = .exitCheck := (congrArg Supply.step (pointers.sup (by decide))).trans check
      rw [pointerRestoreEnd, if_neg (by simp [clearLines, free]), restoreEnd_startUpReads (s := clearLines s) ok job,
        readsEnded, step]
    have sup : u.sup = { s.sup with step := .exitDrain } := by
      rw [raised.sup (by decide), ← show (clearLines s).sup = s.sup from rfl, ← pointers.sup (by decide)]
      rfl
    have sto : u.sto = s.sto := (raised.sto (by decide)).trans (pointers.sto (by decide))
    have event : s.LogsEvents → u.log.queue = s.log.queue ++ [eventRec .powerUp 2 s.log.nextNo s] := by
      intro logs
      have eng : drains.eng = s.eng := pointers.eng (by decide)
      exact raiseEvent_queue_of _ _ logs (pointers.log (by decide)) (by rw [eng]) (by rw [eng])
    have frame : Frame [.path, .sup, .log] (clearLines s) u :=
      (pointers.mono (by decide)).trans
        ((Frame.mono (l := [.sup]) (by simp [drains]) (by decide)).trans (raised.mono (by decide)))
    have same : ∀ (p : Path) (q : Supply), { u with path := p, sup := q } =
        { s with lines := s.said none none [], log := u.log, path := p, sup := q } := fun p q =>
      State.eq_of_blocks (frame.pins (by decide)) (frame.lines (by decide)) rfl (frame.win (by decide)) (frame.smp (by decide))
        (frame.eng (by decide)) sto (frame.dec (by decide)) (frame.sw (by decide)) (frame.tam (by decide)) rfl rfl
        (frame.port (by decide)) (frame.free (by decide)) (frame.pending (by decide))
    have concludes : ∀ p q, exitPowerUp m = { u with path := p, sup := q } → p.cutAsked = false →
        q.holdDue = s.sup.holdDue → q.restartDue = s.sup.restartDue →
        exec (.pointerRestoreEnd ok) s = .next { u with path := p, sup := q } := fun p q ended cut hold restart =>
      runCommand_eq quiet.powered (run.trans ended) (by rw [← quiet.ended, ← sto]) cut (hold.trans quiet.holdDue)
        (restart.trans quiet.restartDue)
    obtain ⟨waits, ends⟩ := exitPowerUp_parts m
    by_cases empty : u.log.queue = []
    case pos =>
      refine ⟨_, concludes { u.path with causePower := false } { u.sup with phase := .running, step := .noStep } (ends empty)
        (by rw [path]; rfl) (by rw [sup]) (by rw [sup]), ?_, event, fun queue => absurd empty queue, fun _ => ⟨rfl, rfl, rfl⟩⟩
      rw [same, path, sup]
    case neg =>
      refine ⟨_, concludes u.path u.sup (waits empty) (by rw [path]; rfl) (by rw [sup]) (by rw [sup]), ?_, event,
        fun _ => ⟨by rw [sup], by rw [sup], by rw [path]⟩, fun queue => absurd queue empty⟩
      rw [same, path, sup]

end
end Sys2Proof.Machine

namespace Sys2Proof.Machine

open Sys2Proof

/-! ## What is due does not look at the lines

FRAME and LOSS_OF_LOCK take what is due after the lines of their own command are released, so that it makes no difference whether it
has been taken before (log entry 8). As with the Supply Monitor above, `-implicitDefEqProofs` carries the decision of a choice along
with its condition. -/

section
variable (f : Lines → Lines) (s : State)

@[simp] theorem modPath_modLines (g : Path → Path) : (s.modLines f).modPath g = (s.modPath g).modLines f := rfl
@[simp] theorem modSmp_modLines (g : Sampling → Sampling) : (s.modLines f).modSmp g = (s.modSmp g).modLines f := rfl
@[simp] theorem modEng_modLines (g : Engine → Engine) : (s.modLines f).modEng g = (s.modEng g).modLines f := rfl
@[simp] theorem modSto_modLines (g : Store → Store) : (s.modLines f).modSto g = (s.modSto g).modLines f := rfl
@[simp] theorem modSw_modLines (g : Switch → Switch) : (s.modLines f).modSw g = (s.modSw g).modLines f := rfl
@[simp] theorem modTam_modLines (g : Tamper → Tamper) : (s.modLines f).modTam g = (s.modTam g).modLines f := rfl
@[simp] theorem modLog_modLines (g : EventLog → EventLog) : (s.modLines f).modLog g = (s.modLog g).modLines f := rfl

@[simp] theorem ite_modLines (c : Prop) [Decidable c] (a b : State) :
    (if c then a.modLines f else b.modLines f) = (if c then a else b).modLines f := by
  split <;> rfl

/-! ### Jobs, events and requests -/

@[simp] theorem addJob_modLines (k : JobKind) : addJob k (s.modLines f) = (addJob k s).modLines f := by simp [addJob]

@[simp] theorem dropJob_modLines (k : JobKind) : dropJob k (s.modLines f) = (dropJob k s).modLines f := rfl

@[simp] theorem eventRec_modLines (k : EventKind) (d : Nat) (n : BitVec 32) :
    eventRec k d n (s.modLines f) = eventRec k d n s := rfl

@[simp] theorem raiseEvent_modLines (k : EventKind) (d : Nat) :
    raiseEvent k d (s.modLines f) = (raiseEvent k d s).modLines f := by
  simp -implicitDefEqProofs [raiseEvent, queueEvent, countLost]

@[simp] theorem requestCommit_modLines (t : Trigger) : requestCommit t (s.modLines f) = (requestCommit t s).modLines f := by
  cases h : s.sto.waiting <;> simp [requestCommit, mergeRequest, h]

/-! ### Reports and relay operations -/

@[simp] theorem bypassAbsent_modLines : bypassAbsent (s.modLines f) = (bypassAbsent s).modLines f := by
  simp [bypassAbsent, conditionAbsent]

@[simp] theorem startOperation_modLines (c : Bool) (o : Option Reason) :
    startOperation c o (s.modLines f) = (startOperation c o s).modLines f := by simp [startOperation]

@[simp] theorem enterReason_modLines (r : Reason) : enterReason r (s.modLines f) = (enterReason r s).modLines f := by
  simp -implicitDefEqProofs [enterReason]

@[simp] theorem overloadTrip_modLines : overloadTrip (s.modLines f) = (overloadTrip s).modLines f := by
  simp -implicitDefEqProofs [overloadTrip]

@[simp] theorem lastReasonLeft_modLines (r : Reason) : lastReasonLeft r (s.modLines f) = (lastReasonLeft r s).modLines f := by
  cases h : s.sw.relay <;> simp [lastReasonLeft, h]

@[simp] theorem follow_modLines (r : Reason) (b : Bool) : follow r b (s.modLines f) = (follow r b s).modLines f := by
  simp -implicitDefEqProofs [follow, reasonEnters, reasonLeaves]

@[simp] theorem followUnset_modLines (b : Bool) : followUnset b (s.modLines f) = (followUnset b s).modLines f := by
  simp [followUnset]

@[simp] theorem report_modLines (r : Report) : report r (s.modLines f) = (report r s).modLines f := by
  cases r <;> simp [report, takeReport]

/-! ### Conditions and findings -/

@[simp] theorem moveLatch_modLines (b : Bool) (k : TamperKind) (v : Latch) (e : EventKind) :
    moveLatch b k v e (s.modLines f) = (moveLatch b k v e s).modLines f := by
  simp [moveLatch, evalTrip]

@[simp] theorem conditionAbsent_modLines (k : TamperKind) :
    conditionAbsent k (s.modLines f) = (conditionAbsent k s).modLines f := rfl

@[simp] theorem conditionPresent_modLines (k : TamperKind) :
    conditionPresent k (s.modLines f) = (conditionPresent k s).modLines f := by
  have grant : ∀ u : State, commitGrantDue (u.modLines f) = commitGrantDue u := fun _ => rfl
  simp -implicitDefEqProofs [conditionPresent, latchPresent, meetGrant, grant]

@[simp] theorem finding_modLines (k : TamperKind) : finding k (s.modLines f) = (finding k s).modLines f := by
  simp [finding, latchFinding]

@[simp] theorem bypassPresent_modLines : bypassPresent (s.modLines f) = (bypassPresent s).modLines f := by
  simp [bypassPresent]

/-! ### The settle of an operation and the relay check -/

@[simp] theorem settleEvaluation_modLines : settleEvaluation (s.modLines f) = (settleEvaluation s).modLines f := by
  cases h : s.sw.relay <;> simp [settleEvaluation, h]

@[simp] theorem settleEvent_modLines (closed unsync failed : Bool) (o : Option Reason) :
    settleEvent closed unsync failed o (s.modLines f) = (settleEvent closed unsync failed o s).modLines f := by
  cases closed with
  | true => exact raiseEvent_modLines ..
  | false =>
    cases o with
    | some r => exact raiseEvent_modLines ..
    | none => exact raiseEvent_modLines f { s with free := s.free + 1 } _ _

@[simp] theorem settle_modLines (closed failed il loadv unsync : Bool) (o : Option Reason) :
    settle closed failed il loadv unsync o (s.modLines f) = (settle closed failed il loadv unsync o s).modLines f := by
  simp -implicitDefEqProofs [settle, failureFinding, settlePeriod, beginOpenPeriod]

@[simp] theorem judgeAttempt_modLines (o : Operation) (m n : Nat) :
    judgeAttempt o m n (s.modLines f) = (judgeAttempt o m n s).modLines f := by simp [judgeAttempt]

@[simp] theorem checkConfirmed_modLines (closed : Bool) :
    checkConfirmed closed (s.modLines f) = (checkConfirmed closed s).modLines f := by
  have settled := fun b => settle_modLines f { s with free := s.free + 1 } closed false false false b none
  cases h : s.sw.relay with
  | closing | opening =>
    simp only [checkConfirmed, State.modLines_sw, h]
    exact settled _
  | closed | opened => simp [checkConfirmed, beginOpenPeriod, h]

@[simp] theorem judgeCheck_modLines (m n : Nat) : judgeCheck m n (s.modLines f) = (judgeCheck m n s).modLines f := by
  simp -implicitDefEqProofs [judgeCheck]

@[simp] theorem endColdStart_modLines : endColdStart (s.modLines f) = (endColdStart s).modLines f := by
  unfold endColdStart
  rw [State.modLines_sup]
  split <;> rfl

@[simp] theorem captureComplete_modLines : captureComplete (s.modLines f) = (captureComplete s).modLines f := by
  cases h : s.sw.op <;> simp -implicitDefEqProofs [captureComplete, endCapture, h]

/-! ### The block, and the rest of what is due -/

@[simp] theorem monitorChange_modLines (k : Monitor) : monitorChange k (s.modLines f) = (monitorChange k s).modLines f := by
  cases k <;> simp -implicitDefEqProofs [monitorChange, monitorReport, loadvReport]

@[simp] theorem limitInForce_modLines : limitInForce (s.modLines f) = (limitInForce s).modLines f := by
  cases h : s.eng.pendingLimit <;> simp [limitInForce, h]

@[simp] theorem evalConditions_modLines : evalConditions (s.modLines f) = (evalConditions s).modLines f := by
  simp -implicitDefEqProofs [evalConditions, reportLow, reportCredit, setLowcr]

@[simp] theorem blockEnd_modLines : blockEnd (s.modLines f) = (blockEnd s).modLines f := by
  simp -implicitDefEqProofs [blockEnd, blockWork]

@[simp] theorem openRelayRun_modLines : openRelayRun (s.modLines f) = (openRelayRun s).modLines f := by
  simp -implicitDefEqProofs [openRelayRun]

theorem takeDue_modLines : takeDue (s.modLines f) = (takeDue s).modLines f := by
  simp -implicitDefEqProofs [takeDue, imbalanceChange, reverseChange, spendThreshold]

end
end Sys2Proof.Machine

namespace Sys2Proof.Machine

open Sys2Proof

section
variable {f g : State → State} {s t u : State}

/-! ## What is due, where nothing is (log entry 8) -/

theorem State.CaughtUp.clearLines (h : s.CaughtUp) : (clearLines s).CaughtUp :=
  ⟨h.capture, h.hall, h.temp, h.loadv, h.block, h.window, h.spend, h.overload, h.openRun, h.imbalance, h.reverse⟩

theorem monitorChange_of_not_due {k : Monitor} (h : (s.smp.monitor k).due (Monitor.lengths k) = false) :
    monitorChange k s = s :=
  if_neg (Bool.eq_false_iff.mp h)

theorem overloadTrip_of_lt (h : s.sw.overRun < 250) : overloadTrip s = s := if_neg (by omega)

theorem takeDue_caughtUp (h : s.CaughtUp) : takeDue s = s := by
  have capture : captureComplete s = s := if_neg fun ⟨running, complete⟩ => absurd (h.capture running) (by omega)
  have block : blockEnd s = s := if_neg (Bool.eq_false_iff.mp h.block)
  have power : s.modEng Engine.updatePower = s := by
    rw [State.modEng, Engine.updatePower, if_neg (by have := h.window; omega)]
  have imbalance : imbalanceChange s = s := by
    have runs := h.imbalance
    unfold imbalanceChange
    split <;> simp_all
  have reverse : reverseChange s = s := by
    have runs := h.reverse
    unfold reverseChange
    split <;> simp_all
  have openRun : openRelayRun s = s := if_neg fun ⟨period, run, found⟩ =>
    absurd (h.openRun period (Bool.eq_false_iff.mpr found)) (by omega)
  have spend : spendThreshold s = s := if_neg (Bool.eq_false_iff.mp h.spend)
  have hall : monitorChange .hall s = s := monitorChange_of_not_due h.hall
  have temp : monitorChange .temp s = s := monitorChange_of_not_due h.temp
  have loadv : monitorChange .loadv s = s := monitorChange_of_not_due h.loadv
  unfold takeDue
  rw [capture, hall, temp]
  dsimp only
  rw [block, loadv, power, imbalance, reverse, overloadTrip_of_lt h.overload, openRun, spend]

/-- What is due is taken once: before the lines of a command are released or after. -/
theorem takeDue_clearLines_takeDue (h : (takeDue s).CaughtUp) :
    takeDue (clearLines (takeDue s)) = takeDue (clearLines s) := by
  rw [takeDue_caughtUp h.clearLines]
  exact (takeDue_modLines _ s).symm

/-- R179: a relay check that ends a cold start is all of what is due that reaches the Supply Monitor. -/
theorem captureComplete_sup (s : State) : (captureComplete s).sup = { s.sup with
    phase := (captureComplete s).sup.phase, step := (captureComplete s).sup.step } := by
  have ends : ∀ u : State, (endColdStart u).sup = { u.sup with
      phase := (endColdStart u).sup.phase, step := (endColdStart u).sup.step } := by
    intro u
    unfold endColdStart
    split <;> rfl
  have judged : ∀ m n, (judgeCheck m n (endCapture s)).sup = s.sup := fun m n =>
    Frame.sup (s := s) (l := [.path, .smp, .sto, .sw, .tam, .log, .free]) (by simp) (by decide)
  have attempted : ∀ o m n, (judgeAttempt o m n (endCapture s)).sup = s.sup := fun o m n =>
    Frame.sup (s := s) (l := [.path, .smp, .sto, .sw, .tam, .log, .free]) (by simp) (by decide)
  have ended : (endCapture s).sup = s.sup := rfl
  unfold captureComplete
  split
  · dsimp only
    split
    · split
      · rw [attempted]
      · rw [ended]
    · split
      · rw [ends, judged]
      · rw [ended]
  · rfl

theorem takeDue_powered (s : State) : (takeDue s).sup.powered = s.sup.powered := by
  have rest : Frame [.path, .smp, .eng, .sto, .sw, .tam, .log] (captureComplete s) (takeDue s) := by simp [takeDue]
  rw [rest.sup (by decide), captureComplete_sup]

/-- A command that takes first what is due does the same where that has been taken already. -/
theorem runCommand_takeDue (powered : s.sup.powered = true) (caught : (takeDue s).CaughtUp)
    (now : f (clearLines s) = g (takeDue (clearLines s)))
    (before : f (clearLines (takeDue s)) = g (takeDue (clearLines (takeDue s)))) :
    runCommand f s = runCommand f (takeDue s) := by
  rw [runCommand, runCommand, if_pos powered, if_pos ((takeDue_powered s).trans powered), now, before,
    takeDue_clearLines_takeDue caught]

/-! ## FRAME (R42 to R47, R57) -/

theorem framesRunning_iff {m : Sampling} : m.framesRunning = true ↔ m.loop = .locked ∧ m.conv = .calibrated := by
  simp [Sampling.framesRunning]

/-- R43: a raw conversion less its offset, saturated. -/
theorem sample_eq (raw : BitVec 16) (offset : Int) : sample raw offset =
    if raw.toInt - offset < -32768 then -32768 else if 32767 < raw.toInt - offset then 32767 else raw.toInt - offset := by
  unfold sample
  omega

theorem takeFrame_running (v iL iN aux : BitVec 16) (loop : s.smp.loop = .locked) (conv : s.smp.conv = .calibrated) :
    takeFrame v iL iN aux s = frameWork v iL iN aux (takeDue s) := if_pos (framesRunning_iff.mpr ⟨loop, conv⟩)

/-- R42, R45 to R47: a frame whose auxiliary slot is the capture's, or each monitor's in its turn. -/
theorem Sampling.advance_auxSlot (m : Sampling) (c : Calibration) (aux : BitVec 16) (iL : Int) :
    (m.auxSlot c aux iL).advance iL =
      let after := { m with
        ilSum := m.ilSum + (iL * iL).natAbs
        framePos := if m.framePos = 63 then 0 else m.framePos + 1
        blockDue := m.framePos = 63 }
      if m.capture ≠ .idle then { after with
        capture := .running
        capCount := m.capCount + 1
        capMax := max m.capMax (sample aux c.offLoadv).natAbs
        capSum := m.capSum + (iL * iL).natAbs }
      else match m.rot with
        | .hall => { after with
            rot := .temp
            hall := m.hall.count (3, 48)
              (if sample aux c.offHall < c.hLo ∨ c.hHi < sample aux c.offHall then .active else .absent) }
        | .temp => { after with
            rot := .loadv
            temp := m.temp.count (8, 8)
              (if c.tTrip < sample aux c.offTemp then .active
               else if sample aux c.offTemp < c.tClear then .absent else .neither) }
        | .loadv => { after with
            rot := .hall
            blockMax := max m.blockMax (sample aux c.offLoadv).natAbs
            blockHas := true } := by
  by_cases idle : m.capture = .idle
  · rw [auxSlot, if_pos idle, rotationSample, if_neg (not_not_intro idle)]
    cases rot : m.rot <;> rfl
  · rw [auxSlot, if_neg idle, if_pos idle]
    rfl

/-- Settles O21, by the auxiliary slot that the frame has. -/
theorem frameIsTaken : Obligations.FrameIsTaken := by
  unfold Obligations.FrameIsTaken
  intro s v iL iN aux quiet
  simp only [← sample_eq]
  refine ⟨fun stopped => ?stopped, fun loop conv loopAfter convAfter caught => ?due, fun loop conv caught => ?frame⟩
  case stopped =>
    refine runCommand_within (f := takeFrame v iL iN aux) quiet ?_ rfl rfl rfl
    exact if_neg fun h => not_and_or.mpr stopped (framesRunning_iff.mp h)
  case due =>
    exact runCommand_takeDue (f := takeFrame v iL iN aux) (g := frameWork v iL iN aux) quiet.powered caught
      (takeFrame_running (s := clearLines s) v iL iN aux loop conv)
      (takeFrame_running (s := clearLines (takeDue s)) v iL iN aux loopAfter convAfter)
  case frame =>
    refine runCommand_within (f := takeFrame v iL iN aux) quiet ?_ rfl rfl rfl
    rw [takeFrame_running (s := clearLines s) v iL iN aux loop conv, takeDue_caughtUp caught.clearLines]
    simp only [frameWork, Sampling.advance_auxSlot]
    rfl

end
end Sys2Proof.Machine

namespace Sys2Proof.Machine

open Sys2Proof

section
variable {s t u : State}

/-! ## LOSS_OF_LOCK (R40, R41, R47) -/

/-- R63: a pending limit comes into force. -/
theorem limitInForce_eq (s : State) : limitInForce s = { s with
    eng := { s.eng with limit := s.eng.pendingLimit.getD s.eng.limit, pendingLimit := none }
    sw := { s.sw with overRun := if s.eng.pendingLimit.isSome then 0 else s.sw.overRun } } := by
  unfold limitInForce
  cases pending : s.eng.pendingLimit with
  | none =>
    simp only [Option.getD_none, Option.isSome_none, Bool.false_eq_true, if_false]
    rw [← pending]
  | some l => rfl

/-- R57: the block in progress is discarded, and a pending limit comes into force. -/
theorem dropBlock_eq (s : State) : dropBlock s = { s with
    smp := { s.smp with framePos := 0, blockDue := false, blockMax := 0, blockHas := false, ilSum := 0 }
    eng := { s.eng with
      sl := 0, sn := 0, limit := s.eng.pendingLimit.getD s.eng.limit, pendingLimit := none }
    sw := { s.sw with overRun := if s.eng.pendingLimit.isSome then 0 else s.sw.overRun } } := limitInForce_eq _

/-- R135: of the Sampling Unit no more than the capture changes, and of the Switch Controller no more than the step. -/
theorem requestAttemptCapture_parts (s : State) : (requestAttemptCapture s).smp = { s.smp with
      capture := (requestAttemptCapture s).smp.capture, capCount := (requestAttemptCapture s).smp.capCount
      capMax := (requestAttemptCapture s).smp.capMax, capSum := (requestAttemptCapture s).smp.capSum } ∧
    (requestAttemptCapture s).sw = { s.sw with op := (requestAttemptCapture s).sw.op } := by
  unfold requestAttemptCapture
  split <;> exact ⟨rfl, rfl⟩

/-- R47: a capture that is given up is asked for again by whoever waits for it. -/
theorem captureAbandoned_parts (s : State) : (captureAbandoned s).smp = { s.smp with
      capture := (captureAbandoned s).smp.capture, capCount := (captureAbandoned s).smp.capCount
      capMax := (captureAbandoned s).smp.capMax, capSum := (captureAbandoned s).smp.capSum } ∧
    (captureAbandoned s).sw = { s.sw with op := (captureAbandoned s).sw.op, check := (captureAbandoned s).sw.check } := by
  obtain ⟨smp, sw⟩ := requestAttemptCapture_parts (endCapture s)
  obtain ⟨checkSmp, checkSw⟩ := requestCheck_parts (endCapture s)
  unfold captureAbandoned
  dsimp only
  split
  · refine ⟨?_, ?_⟩
    · rw [smp]; rfl
    · rw [sw]; rfl
  · split
    · refine ⟨?_, ?_⟩
      · rw [checkSmp]; rfl
      · rw [checkSw]; rfl
    · exact ⟨rfl, rfl⟩

/-- R46, R47: the new request is accepted but in HOLD, and the capture given up runs no more. -/
theorem captureAbandoned_capture (s : State) : (captureAbandoned s).smp.capture ≠ .running ∧
    ((s.sw.check = .waiting ∨ ∃ o, s.sw.op = some o ∧ o.step = .capture) → s.sup.phase ≠ .held →
      (captureAbandoned s).smp.capture = .waiting ∧ (captureAbandoned s).smp.capCount = 0) := by
  have accepted : s.sup.phase ≠ .held → captureAccepted (endCapture s) = true := fun phase =>
    captureAccepted_iff.mpr ⟨rfl, phase⟩
  unfold captureAbandoned requestAttemptCapture requestCheck
  dsimp only
  split
  · split
    · exact ⟨nofun, fun _ _ => ⟨rfl, rfl⟩⟩
    · exact ⟨nofun, fun _ phase => absurd (accepted phase) ‹_›⟩
  · rename_i noAttempt
    split
    · split
      · exact ⟨nofun, fun _ _ => ⟨rfl, rfl⟩⟩
      · exact ⟨nofun, fun _ phase => absurd (accepted phase) ‹_›⟩
    · rename_i noCheck
      refine ⟨nofun, fun waits => ?_⟩
      rcases waits with check | ⟨o, op, step⟩
      · exact absurd check noCheck
      · exact absurd (by simp [endCapture, Switch.atStep, op, step]) noAttempt

/-- R40, R47: a RUNNING capture is given up at a loss of lock; a WAITING one waits on. -/
def giveUpCapture (s : State) : State := if s.smp.capture = .running then captureAbandoned s else s

theorem lossWithFrames_eq (s : State) : lossWithFrames s =
    (giveUpCapture (raiseEvent .meteringGap 0 (dropBlock s))).modSmp Sampling.loseLock := rfl

theorem giveUpCapture_frame (s : State) : Frame [.smp, .sw] s (giveUpCapture s) := by simp [giveUpCapture]

theorem giveUpCapture_parts (s : State) : (giveUpCapture s).smp = { s.smp with
      capture := (giveUpCapture s).smp.capture, capCount := (giveUpCapture s).smp.capCount
      capMax := (giveUpCapture s).smp.capMax, capSum := (giveUpCapture s).smp.capSum } ∧
    (giveUpCapture s).sw = { s.sw with op := (giveUpCapture s).sw.op, check := (giveUpCapture s).sw.check } := by
  unfold giveUpCapture
  split
  · exact captureAbandoned_parts s
  · exact ⟨rfl, rfl⟩

theorem giveUpCapture_capture (s : State) :
    (s.smp.capture = .waiting → (giveUpCapture s).smp.capture = .waiting) ∧ (giveUpCapture s).smp.capture ≠ .running ∧
    (s.smp.capture = .running → (s.sw.check = .waiting ∨ ∃ o, s.sw.op = some o ∧ o.step = .capture) → s.sup.phase ≠ .held →
      (giveUpCapture s).smp.capture = .waiting ∧ (giveUpCapture s).smp.capCount = 0) := by
  obtain ⟨ended, again⟩ := captureAbandoned_capture s
  unfold giveUpCapture
  split
  case isTrue running => exact ⟨fun waiting => (nomatch running.symm.trans waiting), ended, fun _ => again⟩
  case isFalse other => exact ⟨id, other, fun running => absurd running other⟩

theorem loseLock_calibrated {m : Sampling} (h : m.conv = .calibrated) :
    m.loseLock = { m with loop := .locking, zc := .unsettled, zcCount := 0 } :=
  if_neg (by rw [show ({ m.zcReset with loop := .locking } : Sampling).conv = .calibrated from h]; exact nofun)

/-- R41: a loss of lock during calibration abandons it, with its order kept. -/
theorem loseLock_uncalibrated {m : Sampling} (h : m.conv ≠ .calibrated) : m.loseLock = { m with
    loop := .locking, zc := .unsettled, zcCount := 0
    conv := .uncalibrated
    calOrdered := m.calOrdered || m.conv = .calibrating
    calTime := if m.conv = .calibrating then 0 else m.calTime } := by
  cases conv : m.conv with
  | calibrated => exact absurd conv h
  | uncalibrated | calibrating => simp [Sampling.loseLock, Sampling.zcReset, conv]

theorem lossOfLock_running (loop : s.smp.loop = .locked) (conv : s.smp.conv = .calibrated) :
    lossOfLock s = lossWithFrames (takeDue s) :=
  (if_pos loop).trans (if_pos (framesRunning_iff.mpr ⟨loop, conv⟩))

/-- Settles O20: during calibration the order is kept; while frames run the block is dropped, the gap is logged and the capture is given
up. -/
theorem lossOfLockDropsBlock : Obligations.LossOfLockDropsBlock := by
  unfold Obligations.LossOfLockDropsBlock
  intro s settled loop
  refine ⟨fun conv loopAfter convAfter caught => ?due, fun conv => ?calibration, fun conv caught => ?frames⟩
  case due =>
    exact runCommand_takeDue (f := lossOfLock) (g := lossWithFrames) settled.powered caught
      (lossOfLock_running (s := clearLines s) loop conv)
      (lossOfLock_running (s := clearLines (takeDue s)) loopAfter convAfter)
  case calibration =>
    refine runCommand_within (f := lossOfLock) settled.toQuiet ?_ rfl rfl rfl
    have noFrames : ¬ (clearLines s).smp.framesRunning = true := fun h => conv (framesRunning_iff.mp h).2
    rw [lossOfLock, if_pos (show (clearLines s).smp.loop = .locked from loop), if_neg noFrames, State.modSmp,
      loseLock_uncalibrated (m := (clearLines s).smp) conv]
    rfl
  case frames =>
    let d := dropBlock (clearLines s)
    let e := raiseEvent .meteringGap 0 d
    let a := giveUpCapture e
    have dropped : d = _ := dropBlock_eq (clearLines s)
    have raised : Frame [.path, .log] d e := by simp [e]
    have given : Frame [.smp, .sw] e a := giveUpCapture_frame e
    have run : lossOfLock (clearLines s) = a.modSmp Sampling.loseLock := by
      rw [lossOfLock_running (s := clearLines s) loop conv, takeDue_caughtUp caught.clearLines, lossWithFrames_eq]
    have dSmp : e.smp = d.smp := raised.smp (by decide)
    have dSw : e.sw = d.sw := raised.sw (by decide)
    have dSup : e.sup = s.sup := (raised.sup (by decide)).trans (by rw [dropped]; rfl)
    obtain ⟨smp, sw⟩ := giveUpCapture_parts e
    obtain ⟨waits, ended, again⟩ := giveUpCapture_capture e
    have lost : a.smp.loseLock = { a.smp with loop := .locking, zc := .unsettled, zcCount := 0 } :=
      loseLock_calibrated (by rw [smp, dSmp, dropped]; exact conv)
    have asks : OnlyAsks s (a.modSmp Sampling.loseLock) := by
      have dAsks : OnlyAsks s d := by rw [dropped]; exact ⟨settled.generation, rfl, rfl⟩
      exact ((dAsks.raiseEvent _ _).of_frame given (by decide) (by decide)).of_frame (l := [.smp]) (by simp) (by decide)
        (by decide)
    have eng : a.eng = d.eng := (given.eng (by decide)).trans (raised.eng (by decide))
    have sup : a.sup = s.sup := (given.sup (by decide)).trans dSup
    refine ⟨a.modSmp Sampling.loseLock, runCommand_asks settled run asks (by rw [State.modSmp_sup, sup])
      (by rw [State.modSmp_sup, sup]), ?smp, ?waits, ?ended, ?again, ?eng, ?frame, fun logs => ?event⟩
    case smp =>
      rw [State.modSmp_smp, lost, smp, dSmp, dropped]
      rfl
    case waits =>
      rw [State.modSmp_smp, lost]
      exact fun waiting => waits (by rw [dSmp, dropped]; exact waiting)
    case ended =>
      rw [State.modSmp_smp, lost]
      exact ended
    case again =>
      rw [State.modSmp_smp, lost]
      rw [dSmp, dSw, dSup, dropped] at again
      exact again
    case eng =>
      rw [State.modSmp_eng, eng, dropped]
      rfl
    case frame =>
      have all : Frame [.path, .log, .smp, .sw] d (a.modSmp Sampling.loseLock) :=
        ((raised.mono (by decide)).trans (given.mono (by decide))).trans (by simp)
      rw [dropped] at all
      refine State.eq_of_blocks (all.pins (by decide)) (all.lines (by decide)) asks.path (all.win (by decide)) rfl rfl
        (all.sto (by decide)) (all.dec (by decide)) ?_ (all.tam (by decide)) rfl (all.sup (by decide)) (all.port (by decide))
        (all.free (by decide)) (all.pending (by decide))
      rw [State.modSmp_sw, sw, dSw, dropped]
      rfl
    case event =>
      rw [State.modSmp_log, given.log (by decide)]
      exact raiseEvent_queue_of _ _ logs (by rw [dropped]; rfl) (by rw [dropped]; rfl) (by rw [dropped]; rfl)

end
end Sys2Proof.Machine

namespace Sys2Proof.Machine

open Sys2Proof

/-! ## The Switch Controller by itself (R125 to R132, R141)

What a report or an operation makes of the Switch Controller depends on the Switch Controller alone. Each definition below is tied to
the model's own operation by one lemma `…_sw`. -/

/-- R132, R140: an operation has started. -/
def Switch.started (w : Switch) (closing : Bool) (reason : Option Reason) : Switch :=
  { w with
    relay := if closing then .closing else .opening
    op := some (startedOp reason)
    overRun := if closing then w.overRun else 0
    openPeriod := false
    ilRun := 0
    bypass := false }

/-- R127: a reason has entered the set, and opened a closed relay. -/
def Switch.entered (w : Switch) (r : Reason) : Switch :=
  if w.relay = .closed && w.mayStart then { w with reasons := w.reasons.put r true, armed := false }.started false (some r)
  else { w with reasons := w.reasons.put r true, armed := false }

/-- R141: a run that has reached 250 has tripped. -/
def Switch.tripped (w : Switch) : Switch :=
  if 250 ≤ w.overRun then
    let out := { w with
      limitDelay := limitDelayOf w.retry, retry := min (w.retry + 1) 4, clean := 0, overRun := 0 }
    if w.reasons.limit then out else out.entered .limit
  else w

/-- R128: the set has emptied with this reason the last to leave. -/
def Switch.lastLeft (w : Switch) (r : Reason) : Switch :=
  match w.relay with
  | .opened => if r.recloses then (if w.mayStart then w.started true none else w) else { w with armed := true }
  | .opening => if r.recloses then w else { w with armed := true }
  | .closed | .closing => w

/-- R128: a reason has left the set. -/
def Switch.left (w : Switch) (r : Reason) : Switch :=
  let out := { w with reasons := w.reasons.put r false }
  if out.reasons.isEmpty then out.lastLeft r else out

/-- R125: a reason has followed its source. -/
def Switch.followed (w : Switch) (r : Reason) (want : Bool) : Switch :=
  if w.reasons.has r = want then w else if want then w.tripped.entered r else w.left r

/-- R129: the settle evaluation has been made. -/
def Switch.evaluated (w : Switch) : Switch :=
  if w.mayStart then
    match w.relay with
    | .closed => if w.reasons.isEmpty then w else w.started false w.reasons.first
    | .opened => if w.reasons.isEmpty && !w.armed then w.started true none else w
    | .opening | .closing => w
  else w

section
variable {s t u : State}

@[simp] theorem requestCommit_sw (a : Trigger) (s : State) : (requestCommit a s).sw = s.sw :=
  Frame.sw (l := [.path, .sto]) (by simp) (by decide)

@[simp] theorem requestCommit_tam (a : Trigger) (s : State) : (requestCommit a s).tam = s.tam :=
  Frame.tam (l := [.path, .sto]) (by simp) (by decide)

@[simp] theorem bypassAbsent_sw (s : State) : (bypassAbsent s).sw = { s.sw with bypass := false } := by
  unfold bypassAbsent
  split
  case isTrue => rfl
  case isFalse absent => rw [← Bool.eq_false_iff.mpr absent]

@[simp] theorem startOperation_sw (closing : Bool) (reason : Option Reason) (s : State) :
    (startOperation closing reason s).sw = s.sw.started closing reason := by
  rw [startOperation, bypassAbsent_sw]
  rfl

@[simp] theorem enterReason_sw (r : Reason) (s : State) : (enterReason r s).sw = s.sw.entered r := by
  rw [enterReason, requestCommit_sw, apply_ite State.sw, startOperation_sw]
  rfl

@[simp] theorem overloadTrip_sw (s : State) : (overloadTrip s).sw = s.sw.tripped := by
  rw [overloadTrip, apply_ite State.sw]
  dsimp only
  rw [apply_ite State.sw, enterReason_sw]
  rfl

@[simp] theorem lastReasonLeft_sw (r : Reason) (s : State) : (lastReasonLeft r s).sw = s.sw.lastLeft r := by
  cases relay : s.sw.relay <;> simp [lastReasonLeft, Switch.lastLeft, relay, apply_ite State.sw]

@[simp] theorem reasonLeaves_sw (r : Reason) (s : State) : (reasonLeaves r s).sw = s.sw.left r := by
  rw [reasonLeaves, requestCommit_sw, apply_ite State.sw, lastReasonLeft_sw]
  rfl

@[simp] theorem follow_sw (r : Reason) (want : Bool) (s : State) : (follow r want s).sw = s.sw.followed r want := by
  simp only [follow, reasonEnters, apply_ite State.sw, enterReason_sw, overloadTrip_sw, reasonLeaves_sw]
  rfl

@[simp] theorem settleEvaluation_sw (s : State) : (settleEvaluation s).sw = s.sw.evaluated := by
  unfold settleEvaluation Switch.evaluated
  cases starts : s.sw.mayStart with
  | false => rfl
  | true => cases s.sw.relay <;> simp [apply_ite State.sw]

/-! ### What becomes of the set (R125) -/

@[simp] theorem Reasons.has_put_same (m : Reasons) (r : Reason) (v : Bool) : (m.put r v).has r = v := by cases r <;> rfl

/-- A set that a reason is in is not empty. -/
theorem Reasons.isEmpty_of_has {m : Reasons} {r : Reason} (h : m.has r = true) : m.isEmpty = false := by
  have ordered : r ∈ reasonOrder := by cases r <;> decide
  simpa [isEmpty] using ⟨r, ordered, h⟩

@[simp] theorem Switch.entered_reasons (w : Switch) (r : Reason) : (w.entered r).reasons = w.reasons.put r true := by
  unfold entered
  split <;> rfl

/-- R141: LIMIT is in the set after a trip. -/
@[simp] theorem Switch.tripped_reasons (w : Switch) :
    w.tripped.reasons = { w.reasons with limit := w.reasons.limit || 250 ≤ w.overRun } := by
  unfold tripped
  split
  case isTrue run =>
    dsimp only
    split
    case isTrue present => rw [present, Bool.true_or, ← present]
    case isFalse => simp [run, Reasons.put]
  case isFalse run => simp [run]

@[simp] theorem Switch.lastLeft_reasons (w : Switch) (r : Reason) : (w.lastLeft r).reasons = w.reasons := by
  unfold lastLeft
  repeat' split
  all_goals rfl

@[simp] theorem Switch.left_reasons (w : Switch) (r : Reason) : (w.left r).reasons = w.reasons.put r false := by
  unfold left
  dsimp only
  split <;> simp

@[simp] theorem Switch.evaluated_reasons (w : Switch) : w.evaluated.reasons = w.reasons := by
  unfold evaluated
  repeat' split
  all_goals rfl

/-- R125, log entry 8: the reason follows its source, and where it enters, a trip that is due comes first. -/
theorem Switch.followed_reasons (w : Switch) (r : Reason) (want : Bool) : (w.followed r want).reasons =
    if w.reasons.has r = want then w.reasons
    else if want then w.tripped.reasons.put r true else w.reasons.put r false := by
  unfold followed
  split
  · rfl
  · split
    · rw [entered_reasons]
    · rw [left_reasons]

/-- R125: after its report the reason is in the set just when its source is present. -/
theorem Switch.followed_has (w : Switch) (r : Reason) (want : Bool) : (w.followed r want).reasons.has r = want := by
  rw [followed_reasons]
  split
  · assumption
  · split <;> simp_all

/-! ### What a report leaves alone -/

/-- The Switch Controller after a report, an operation or a trip, with the fields that these can change. -/
def Switch.Moved (w v : Switch) : Prop := v = { w with
  relay := v.relay, reasons := v.reasons, armed := v.armed, op := v.op, overRun := v.overRun, retry := v.retry
  limitDelay := v.limitDelay, clean := v.clean, ilRun := v.ilRun, bypass := v.bypass, openPeriod := v.openPeriod }

theorem Switch.Moved.refl (w : Switch) : w.Moved w := rfl

theorem Switch.Moved.trans {w v x : Switch} (h : w.Moved v) (g : v.Moved x) : w.Moved x := by
  unfold Moved at *
  rw [g, h]

theorem Switch.moved_entered (w : Switch) (r : Reason) : w.Moved (w.entered r) := by
  unfold entered
  split <;> rfl

theorem Switch.moved_tripped (w : Switch) : w.Moved w.tripped := by
  unfold tripped
  split
  · dsimp only
    split
    · rfl
    · exact Moved.trans (by rfl) (moved_entered _ _)
  · rfl

theorem Switch.moved_left (w : Switch) (r : Reason) : w.Moved (w.left r) := by
  unfold left lastLeft
  dsimp only
  repeat' split
  all_goals rfl

theorem Switch.moved_followed (w : Switch) (r : Reason) (want : Bool) : w.Moved (w.followed r want) := by
  unfold followed
  split
  · rfl
  · split
    · exact (moved_tripped w).trans (moved_entered _ _)
    · exact moved_left w r

/-! ### Reports (R125, R144) -/

theorem report_credit_sw (b : Bool) (s : State) : (report (.credit b) s).sw =
    if s.sw.awaitRecord then { s.sw with heldReports := s.sw.heldReports ++ [.credit b] }
    else { s.sw with creditCond := b }.followed .credit b := by
  rw [report, apply_ite State.sw, takeReport, follow_sw]
  rfl

theorem report_trip_sw (b : Bool) (s : State) : (report (.trip b) s).sw =
    if s.sw.awaitRecord then { s.sw with heldReports := s.sw.heldReports ++ [.trip b] }
    else { s.sw with trip := b }.followed .tamper b := by
  rw [report, apply_ite State.sw, takeReport, follow_sw]
  rfl

theorem report_temp_sw (b : Bool) (s : State) : (report (.temp b) s).sw =
    if s.sw.awaitRecord then { s.sw with heldReports := s.sw.heldReports ++ [.temp b] }
    else { s.sw with tempHot := b }.followed .thermal b := by
  rw [report, apply_ite State.sw, takeReport, follow_sw]
  rfl

/-! ### Reports that start no operation

A reason that enters or leaves the set starts no opening where the relay is not CLOSED, an operation is in flight or the holdback is
HELD, and one that the meter does not remove by itself starts no closing (R127, R128, R132). -/

/-- R127: a reason that enters the set starts an opening. -/
def Switch.opens (w : Switch) : Bool := w.relay = .closed && w.mayStart

theorem Switch.opens_of_not_closed {w : Switch} (h : w.relay ≠ .closed) : w.opens = false := by simp [opens, h]

theorem Switch.opens_of_held {w : Switch} (h : w.held = true) : w.opens = false := by simp [opens, mayStart, h]

/-- No operation has started between the two. -/
structure Switch.Still (w v : Switch) : Prop where
  relay : v.relay = w.relay
  op : v.op = w.op
  held : v.held = w.held
  bypass : v.bypass = w.bypass
  openPeriod : v.openPeriod = w.openPeriod
  ilRun : v.ilRun = w.ilRun

theorem Switch.Still.refl (w : Switch) : w.Still w := ⟨rfl, rfl, rfl, rfl, rfl, rfl⟩

theorem Switch.Still.trans {w v x : Switch} (h : w.Still v) (g : v.Still x) : w.Still x where
  relay := g.relay.trans h.relay
  op := g.op.trans h.op
  held := g.held.trans h.held
  bypass := g.bypass.trans h.bypass
  openPeriod := g.openPeriod.trans h.openPeriod
  ilRun := g.ilRun.trans h.ilRun

theorem Switch.Still.opens {w v : Switch} (h : w.Still v) : v.opens = w.opens := by
  simp [Switch.opens, mayStart, h.relay, h.op, h.held]

theorem Switch.entered_of_still {w : Switch} (h : w.opens = false) (r : Reason) :
    w.entered r = { w with reasons := w.reasons.put r true, armed := false } := if_neg (Bool.eq_false_iff.mp h)

theorem Switch.entered_still {w : Switch} (h : w.opens = false) (r : Reason) : w.Still (w.entered r) := by
  rw [entered_of_still h]
  exact ⟨rfl, rfl, rfl, rfl, rfl, rfl⟩

theorem Switch.tripped_still {w : Switch} (h : w.opens = false) : w.Still w.tripped := by
  unfold tripped
  split
  · dsimp only
    split
    · exact ⟨rfl, rfl, rfl, rfl, rfl, rfl⟩
    · refine .trans ?_ (entered_still ?_ _)
      · exact ⟨rfl, rfl, rfl, rfl, rfl, rfl⟩
      · exact h
  · exact .refl w

theorem Switch.lastLeft_eq (w : Switch) {r : Reason} (h : r.recloses = false) :
    w.lastLeft r = { w with armed := w.armed || (w.relay = .opened || w.relay = .opening) } := by
  cases w with
  | mk relay => cases relay <;> simp [lastLeft, h]

theorem Switch.left_still (w : Switch) {r : Reason} (h : r.recloses = false) : w.Still (w.left r) := by
  unfold left
  dsimp only
  split
  · rw [lastLeft_eq _ h]
    exact ⟨rfl, rfl, rfl, rfl, rfl, rfl⟩
  · exact ⟨rfl, rfl, rfl, rfl, rfl, rfl⟩

theorem Switch.followed_still {w : Switch} (h : w.opens = false) {r : Reason} (want : Bool) (hr : r.recloses = false) :
    w.Still (w.followed r want) := by
  unfold followed
  split
  · exact .refl w
  · split
    · have tripped := tripped_still h
      exact tripped.trans (entered_still (by rw [tripped.opens]; exact h) r)
    · exact left_still w hr

theorem enterReason_tam (h : s.sw.opens = false) (r : Reason) : (enterReason r s).tam = s.tam := by
  rw [enterReason, requestCommit_tam]
  refine (congrArg State.tam (if_neg ?_)).trans rfl
  exact Bool.eq_false_iff.mp h

theorem overloadTrip_tam (h : s.sw.opens = false) : (overloadTrip s).tam = s.tam := by
  unfold overloadTrip
  split
  · dsimp only
    split
    · rfl
    · refine (enterReason_tam ?_ _).trans rfl
      exact h
  · rfl

theorem reasonLeaves_tam {r : Reason} (h : r.recloses = false) (s : State) : (reasonLeaves r s).tam = s.tam := by
  have left : ∀ u : State, (lastReasonLeft r u).tam = u.tam := by
    intro u
    unfold lastReasonLeft
    rw [h]
    cases u.sw.relay <;> rfl
  rw [reasonLeaves, requestCommit_tam, apply_ite State.tam, left]
  split <;> rfl

theorem follow_tam (h : s.sw.opens = false) {r : Reason} (hr : r.recloses = false) (want : Bool) :
    (follow r want s).tam = s.tam := by
  unfold follow
  split
  · rfl
  · split
    · rw [reasonEnters, enterReason_tam (by rw [overloadTrip_sw, (Switch.tripped_still h).opens]; exact h), overloadTrip_tam h]
    · exact reasonLeaves_tam hr s

/-- The Tamper Monitor hears nothing of a trip condition that starts no operation. -/
theorem report_trip_tam (h : s.sw.opens = false) (b : Bool) : (report (.trip b) s).tam = s.tam := by
  unfold report
  split
  · rfl
  · refine (follow_tam ?_ rfl b).trans rfl
    exact h

theorem report_trip_still (h : s.sw.opens = false) (b : Bool) : s.sw.Still (report (.trip b) s).sw := by
  rw [report_trip_sw]
  split
  · exact ⟨rfl, rfl, rfl, rfl, rfl, rfl⟩
  · refine .trans ?_ (Switch.followed_still ?_ b rfl)
    · exact ⟨rfl, rfl, rfl, rfl, rfl, rfl⟩
    · exact h

/-! ## What is owed (R86, R87) -/

theorem State.Owes.mono {m n : Nat} (h : s.Owes m) (le : m ≤ n) : s.Owes n :=
  h.imp_right fun ⟨w, waits, rank⟩ => ⟨w, waits, rank.trans le⟩

theorem State.Owes.of_sto {n : Nat} (h : s.Owes n) (sto : t.sto = s.sto) : t.Owes n := by
  unfold State.Owes
  rw [sto]
  exact h

@[simp] theorem addJob_sto (k : JobKind) (s : State) : (addJob k s).sto = s.sto := by rw [addJob_eq]

theorem mergeRequest_sto (a b : Trigger) (s : State) : (mergeRequest a b s).sto =
    if a.rank < b.rank then { s.sto with waiting := some a } else s.sto := by
  unfold mergeRequest
  split
  · dsimp only
    split
    · simp [dropJob]
    · rfl
  · rfl

/-- R86, R87: with an account, and before the end of the generations, a request waits, or a better one does. -/
theorem requestCommit_owes (a : Trigger) (generation : s.sto.generationEnded = false) :
    (requestCommit a s).Owes a.rank := by
  unfold requestCommit
  split
  case isTrue none => exact .inl none
  case isFalse =>
    rw [if_neg (by simp [generation])]
    split
    case h_1 => exact .inr ⟨a, by simp, le_rfl⟩
    case h_2 w waits =>
      unfold State.Owes
      rw [mergeRequest_sto]
      split
      · exact .inr ⟨a, rfl, le_rfl⟩
      · exact .inr ⟨w, waits, by omega⟩

/-- R87: what is owed already stays owed. -/
theorem State.Owes.requestCommit {n : Nat} (a : Trigger) (generation : s.sto.generationEnded = false) (h : s.Owes n) :
    (requestCommit a s).Owes n := by
  unfold Machine.requestCommit
  split
  case isTrue => exact h
  case isFalse account =>
    obtain ⟨w, waits, rank⟩ := h.resolve_left account
    rw [if_neg (by simp [generation]), waits]
    unfold State.Owes
    dsimp only
    rw [mergeRequest_sto]
    split
    · exact .inr ⟨a, rfl, by omega⟩
    · exact .inr ⟨w, waits, rank⟩

@[simp] theorem startOperation_sto (c : Bool) (o : Option Reason) (s : State) : (startOperation c o s).sto = s.sto :=
  Frame.sto (l := [.sw, .tam]) (by simp) (by decide)

@[simp] theorem lastReasonLeft_sto (r : Reason) (s : State) : (lastReasonLeft r s).sto = s.sto :=
  Frame.sto (l := [.sw, .tam]) (by simp) (by decide)

/-- R127, R128: a change of the set asks for a SWITCH commit. -/
theorem enterReason_owes (r : Reason) (generation : s.sto.generationEnded = false) : (enterReason r s).Owes 6 := by
  refine requestCommit_owes (s := ite _ _ _) .switch ?_
  rw [apply_ite State.sto, startOperation_sto]
  split <;> exact generation

theorem reasonLeaves_owes (r : Reason) (generation : s.sto.generationEnded = false) : (reasonLeaves r s).Owes 6 := by
  refine requestCommit_owes (s := ite _ _ _) .switch ?_
  rw [apply_ite State.sto, lastReasonLeft_sto]
  split <;> exact generation

theorem State.Owes.enterReason {n : Nat} (r : Reason) (generation : s.sto.generationEnded = false) (h : s.Owes n) :
    (enterReason r s).Owes n := by
  have sto : ∀ c : Bool, (if c then startOperation false (some r)
      (s.modSw fun w => { w with reasons := w.reasons.put r true, armed := false })
      else s.modSw fun w => { w with reasons := w.reasons.put r true, armed := false }).sto = s.sto := by
    intro c
    cases c <;> simp
  exact (h.of_sto (sto _)).requestCommit .switch (by rw [sto, generation])

theorem State.Owes.overloadTrip {n : Nat} (generation : s.sto.generationEnded = false) (h : s.Owes n) :
    (overloadTrip s).Owes n := by
  unfold Machine.overloadTrip
  split
  · dsimp only
    split
    · exact h
    · exact State.Owes.enterReason (s := s.modSw _) .limit generation h
  · exact h

end
end Sys2Proof.Machine

namespace Sys2Proof.Machine

open Sys2Proof

section
variable {s t u : State}

/-! ## Latch moves that are handed on (R149, R160) -/

theorem Latches.get_set_same (m : Latches) (k : TamperKind) (v : Latch) : (m.set k v).get k = v := by cases k <;> rfl

theorem Latches.get_set_other (m : Latches) {j k : TamperKind} (v : Latch) (h : j ≠ k) : (m.set k v).get j = m.get j := by
  cases k <;> cases j <;> simp_all [Latches.get, Latches.set]

/-- Whatever becomes of the BYPASS latch, the others are as given. -/
theorem Latches.get_with_bypass (m : Latches) {j : TamperKind} (v : Latch) (h : j ≠ .bypass) :
    ({ m with bypass := v } : Latches).get j = m.get j := Latches.get_set_other m (k := .bypass) v h

@[simp] theorem requestCommit_log (a : Trigger) (s : State) : (requestCommit a s).log = s.log :=
  Frame.log (l := [.path, .sto]) (by simp) (by decide)

@[simp] theorem evalTrip_log (s : State) : (evalTrip s).log = s.log :=
  Frame.log (l := [.path, .sto, .sw, .tam]) (by simp) (by decide)

/-- R160: the trip condition is handed over where it has changed. -/
theorem evalTrip_sw (s : State) : (evalTrip s).sw =
    if tripCondition s.win.cal.tripMask s.tam.latches = s.tam.tripReported then s.sw
    else (report (.trip (tripCondition s.win.cal.tripMask s.tam.latches)) s).sw := by
  unfold evalTrip
  dsimp only
  split
  · rfl
  · rw [report_trip_sw, report_trip_sw]
    rfl

/-- R149: the event, before the trip condition is evaluated. -/
def latchMoved (k : TamperKind) (v : Latch) (e : EventKind) (s : State) : State :=
  raiseEvent e k.num (s.modTam fun m => { m with latches := m.latches.set k v })

theorem moveLatch_eq (k : TamperKind) (v : Latch) (e : EventKind) (s : State) :
    moveLatch true k v e s = requestCommit .latch (evalTrip (latchMoved k v e s)) := rfl

theorem latchMoved_frame (k : TamperKind) (v : Latch) (e : EventKind) (s : State) :
    Frame [.path, .log] (s.modTam fun m => { m with latches := m.latches.set k v }) (latchMoved k v e s) := by
  simp [latchMoved]

theorem moveLatch_log (k : TamperKind) (v : Latch) (e : EventKind) (s : State) :
    (moveLatch true k v e s).log = (latchMoved k v e s).log := by
  rw [moveLatch_eq, requestCommit_log, evalTrip_log]

/-- R160: what a latch move makes of the Switch Controller is the report of a changed trip condition. -/
theorem moveLatch_sw (k : TamperKind) (v : Latch) (e : EventKind) (s : State) : (moveLatch true k v e s).sw =
    if tripCondition s.win.cal.tripMask (s.tam.latches.set k v) = s.tam.tripReported then s.sw
    else (report (.trip (tripCondition s.win.cal.tripMask (s.tam.latches.set k v))) s).sw := by
  have moved := latchMoved_frame k v e s
  rw [moveLatch_eq, requestCommit_sw, evalTrip_sw, report_trip_sw, report_trip_sw, moved.win (by decide),
    moved.tam (by decide), moved.sw (by decide)]
  rfl

/-- R140, R149, R160: what a latch move makes of the Tamper Monitor. -/
theorem moveLatch_tam_parts (k : TamperKind) (v : Latch) (e : EventKind) (generation : s.sto.generationEnded = false) :
    (moveLatch true k v e s).tam = { s.tam with
      latches := (moveLatch true k v e s).tam.latches, bypass := (moveLatch true k v e s).tam.bypass
      tripReported := (moveLatch true k v e s).tam.tripReported } := by
  have moved := latchMoved_frame k v e s
  have asks : OnlyAsks s (latchMoved k v e s) := ((OnlyAsks.refl generation).modTam _).raiseEvent _ _
  have trip : ∀ b, (report (.trip b) ((latchMoved k v e s).modTam fun m => { m with tripReported := b })).tam = _ :=
    fun b => ((OnlyReports.refl (s := (latchMoved k v e s).modTam fun m => { m with tripReported := b })
      asks.generation).report (.trip b)).tamper
  rw [moveLatch_eq, requestCommit_tam]
  unfold evalTrip
  dsimp only
  split
  · rw [moved.tam (by decide)]
    rfl
  · rw [trip, State.modTam_tam, moved.tam (by decide)]
    rfl

/-- R127, R140: where no operation starts the BYPASS condition stays. -/
theorem moveLatch_tam_still (k : TamperKind) (v : Latch) (e : EventKind) (still : s.sw.opens = false) :
    (moveLatch true k v e s).tam = { s.tam with
      latches := s.tam.latches.set k v, tripReported := (moveLatch true k v e s).tam.tripReported } := by
  have moved := latchMoved_frame k v e s
  have trip : ∀ b, (report (.trip b) ((latchMoved k v e s).modTam fun m => { m with tripReported := b })).tam = _ :=
    fun b => report_trip_tam (s := (latchMoved k v e s).modTam _) (by rw [State.modTam_sw, moved.sw (by decide)]; exact still) b
  rw [moveLatch_eq, requestCommit_tam]
  unfold evalTrip
  dsimp only
  split
  · rw [moved.tam (by decide)]
    rfl
  · rw [trip, State.modTam_tam, moved.tam (by decide)]
    rfl

theorem moveLatch_owes (k : TamperKind) (v : Latch) (e : EventKind) (generation : s.sto.generationEnded = false) :
    (moveLatch true k v e s).Owes 5 := by
  have asks := (((OnlyAsks.refl generation).modTam fun m => { m with latches := m.latches.set k v }).raiseEvent e k.num).evalTrip
  exact requestCommit_owes .latch asks.generation

/-- R160: a latch that is set and that the trip mask names trips. -/
theorem tripCondition_set (mask : BitVec 10) (m : Latches) {k : TamperKind} {v : Latch} (names : named mask k = true)
    (isSet : v ≠ .clear) : tripCondition mask (m.set k v) = true := by
  have kinds : k ∈ tamperKinds := by cases k <;> decide
  exact List.any_eq_true.mpr ⟨k, kinds, by simp [names, Latches.get_set_same, isSet]⟩

theorem moveLatch_trips {k : TamperKind} {v : Latch} {e : EventKind} (names : named s.win.cal.tripMask k = true)
    (isSet : v ≠ .clear) (reported : s.tam.tripReported = false) (record : s.sw.awaitRecord = false) :
    (moveLatch true k v e s).sw.reasons.tamper = true := by
  rw [moveLatch_sw, tripCondition_set _ _ names isSet, if_neg (by simp [reported]), report_trip_sw, if_neg (by simp [record])]
  exact Switch.followed_has _ .tamper true

/-! ## Conditions (R149, R150, R162) -/

@[simp] theorem Tamper.setCond_loaded (m : Tamper) (k : TamperKind) (v : Bool) : (m.setCond k v).loaded = m.loaded := by
  cases k <;> rfl

@[simp] theorem Tamper.setCond_latches (m : Tamper) (k : TamperKind) (v : Bool) : (m.setCond k v).latches = m.latches := by
  cases k <;> rfl

@[simp] theorem Tamper.setCond_tripReported (m : Tamper) (k : TamperKind) (v : Bool) :
    (m.setCond k v).tripReported = m.tripReported := by
  cases k <;> rfl

/-- R162: a further commit follows a condition that meets the grant of a commit job. -/
theorem meetGrant_eq (k : TamperKind) (s : State) : meetGrant k s = s.modSto fun a =>
    { a with further := a.further || (s.tam.latches.get k != .active && commitGrantDue s) } := by
  unfold meetGrant
  cases meets : s.tam.latches.get k != .active && commitGrantDue s <;> simp [State.modSto]

/-- The state in which the latch of a condition that becomes present moves. -/
def conditionMet (k : TamperKind) (s : State) : State := meetGrant k (s.modTam fun m => m.setCond k true)

theorem conditionMet_eq (k : TamperKind) (s : State) : conditionMet k s = (s.modTam fun m => m.setCond k true).modSto fun a =>
    { a with further := a.further || (s.tam.latches.get k != .active && commitGrantDue s) } := by
  rw [conditionMet, meetGrant_eq, State.modTam_tam, Tamper.setCond_latches]
  rfl

/-- R150: before the latches are loaded a condition waits as present. -/
theorem conditionPresent_unloaded (k : TamperKind) (loaded : s.tam.loaded = false) :
    conditionPresent k s = s.modTam fun m => m.setCond k true :=
  if_neg (by simp [loaded])

theorem conditionPresent_active {k : TamperKind} (active : s.tam.latches.get k = .active) :
    conditionPresent k s = s.modTam fun m => m.setCond k true := by
  unfold conditionPresent latchPresent meetGrant
  simp [active]

theorem conditionPresent_moves {k : TamperKind} (loaded : s.tam.loaded = true) (active : s.tam.latches.get k ≠ .active) :
    conditionPresent k s = moveLatch true k .active .tamperSet (conditionMet k s) := by
  refine (if_pos (by simp [loaded])).trans (if_neg ?_)
  rw [show meetGrant k _ = conditionMet k s from rfl, conditionMet_eq]
  simpa using active

theorem commitGrantDue_iff (s : State) : commitGrantDue s = true ↔
    nextJob s = some .commit ∨ nextJob s = some .urgentCommit := by
  simp [commitGrantDue]

/-- What moves no latch says nothing to anyone. -/
theorem ConditionTaken.of_silent {k : TamperKind} {present : Bool} (log : t.log = s.log) (sw : t.sw = s.sw) (sto : t.sto = s.sto)
    (others : ∀ j, j ≠ k → t.tam.latches.get j = s.tam.latches.get j)
    (waits : s.tam.loaded = false → t.tam.latches = s.tam.latches)
    (latch : s.tam.loaded = true → t.tam.latches.get k =
      (if present then .active else if s.tam.latches.get k = .active then .held else s.tam.latches.get k))
    (silent : s.tam.loaded = false ∨ present = false ∨ s.tam.latches.get k = .active) : ConditionTaken s t k present where
  waits loaded := ⟨waits loaded, log, sw, sto⟩
  latch := latch
  others j _ other _ := others j other
  silent _ := ⟨log, sw, sto⟩
  event loaded isPresent moves _ := by simp_all
  trips loaded isPresent moves _ _ _ := by simp_all
  request loaded isPresent moves := by simp_all
  further := by
    rw [sto]
    refine ⟨.inl, fun h => h.resolve_right fun ⟨loaded, isPresent, moves, _⟩ => ?_⟩
    simp_all

theorem conditionAbsent_tam (k : TamperKind) (s : State) : (conditionAbsent k s).tam =
    { s.tam.setCond k false with latches := (conditionAbsent k s).tam.latches } := by
  simp only [conditionAbsent, State.modTam_tam]
  split <;> rfl

/-- R149: a condition that becomes absent takes an ACTIVE latch to HELD, and hands nothing on. -/
theorem conditionAbsent_taken (k : TamperKind) (s : State) : ConditionTaken s (conditionAbsent k s) k false := by
  have latches : (conditionAbsent k s).tam.latches =
      if s.tam.loaded && s.tam.latches.get k = .active then s.tam.latches.set k .held else s.tam.latches := by
    simp only [conditionAbsent, State.modTam_tam, Tamper.setCond_loaded, Tamper.setCond_latches]
    split <;> simp
  refine .of_silent rfl rfl rfl (fun j other => ?_) (fun loaded => ?_) (fun loaded => ?_) (.inr (.inl rfl)) <;> rw [latches]
  · split
    · exact Latches.get_set_other _ _ other
    · rfl
  · simp [loaded]
  · by_cases active : s.tam.latches.get k = .active
    · simp [loaded, active, Latches.get_set_same]
    · simp [active]

/-- R149, R160, R162: a condition that becomes present. Where no operation starts BYPASS stays as it is reported. -/
theorem conditionPresent_taken {k : TamperKind} (generation : s.sto.generationEnded = false)
    (bypass : k = .bypass → s.sw.opens = false) : ConditionTaken s (conditionPresent k s) k true := by
  by_cases moves : s.tam.loaded = true ∧ s.tam.latches.get k ≠ .active
  case neg =>
    have silent : s.tam.loaded = false ∨ s.tam.latches.get k = .active := by
      rwa [not_and_or, Bool.not_eq_true, not_not] at moves
    have same : conditionPresent k s = s.modTam fun m => m.setCond k true :=
      silent.elim (conditionPresent_unloaded k) conditionPresent_active
    rw [same]
    exact .of_silent rfl rfl rfl (fun j _ => by simp) (fun _ => by simp) (fun loaded => by simp_all)
      (silent.imp_right .inr)
  case pos =>
    obtain ⟨loaded, active⟩ := moves
    have met := conditionMet_eq k s
    have asks : OnlyAsks (conditionMet k s) (conditionPresent k s) := by
      rw [conditionPresent_moves loaded active]
      exact (OnlyAsks.refl (by rw [met]; exact generation)).moveLatch true k .active .tamperSet
    rw [conditionPresent_moves loaded active] at asks ⊢
    have latches : (conditionMet k s).tam.latches = s.tam.latches := by rw [met]; simp
    have metGeneration : (conditionMet k s).sto.generationEnded = false := by rw [met]; exact generation
    exact {
      waits := fun unloaded => by simp_all
      latch := fun _ => by
        rw [if_pos rfl]
        by_cases isBypass : k = .bypass
        · rw [moveLatch_tam_still _ _ _ (by rw [met]; exact bypass isBypass)]
          exact Latches.get_set_same _ _ _
        · rw [moveLatch_latches _ _ _ _ metGeneration, Latches.get_with_bypass _ _ isBypass, Latches.get_set_same]
      others := fun j _ other notBypass => by
        rw [moveLatch_latches _ _ _ _ metGeneration, Latches.get_with_bypass _ _ notBypass, Latches.get_set_other _ _ other,
          latches]
      silent := fun h => by simp_all
      event := fun _ _ _ logs => by
        rw [moveLatch_log]
        exact raiseEvent_queue_of _ _ logs (by rw [State.modTam_log, met]; rfl) (by rw [State.modTam_eng, met]; rfl)
          (by rw [State.modTam_eng, met]; rfl)
      trips := fun _ _ _ names reported record =>
        moveLatch_trips (by rw [met]; exact names) nofun (by rw [met]; simpa using reported) (by rw [met]; exact record)
      request := fun _ _ _ => moveLatch_owes _ _ _ metGeneration
      further := by
        rw [asks.store, met]
        simp [loaded, active, commitGrantDue_iff] }

/-- A condition that is taken is told of in the blocks that the report reaches alone. -/
theorem ConditionTaken.of_blocks {s' : State} {k : TamperKind} {present : Bool} (h : ConditionTaken s' t k present)
    (tam : s'.tam = s.tam) (log : s'.log = s.log) (sw : s'.sw = s.sw) (sto : s'.sto = s.sto)
    (mask : s'.win.cal.tripMask = s.win.cal.tripMask) (cumulative : s'.eng.cumulative = s.eng.cumulative)
    (credit : s'.eng.credit = s.eng.credit) (job : nextJob s' = nextJob s) : ConditionTaken s t k present := by
  have event : ∀ d n, eventRec .tamperSet d n s' = eventRec .tamperSet d n s := fun d n => by
    rw [eventRec, cumulative, credit]
    rfl
  obtain ⟨waits, latch, others, silent, tells, trips, request, further⟩ := h
  rw [tam] at waits latch others silent tells trips request further
  rw [log] at waits silent tells
  rw [sw] at waits silent trips
  rw [sto] at waits silent further
  exact ⟨waits, latch, others, silent,
    fun loaded isPresent moves logs => by
      rw [← event]
      exact tells loaded isPresent moves ⟨by rw [log]; exact logs.recovered, by rw [log]; exact logs.ring,
        by rw [log]; exact logs.room⟩,
    by rw [← mask]; exact trips, request, by rw [← job]; exact further⟩

end
end Sys2Proof.Machine

namespace Sys2Proof.Machine

open Sys2Proof

/-! ## What a condition asks for

As `OnlyAsks`, where a condition may meet the grant of a commit job (R162). -/

/-- `t` differs from `s` in the Path Unit at most in the waiting jobs, and in the Account Store at most in the request that waits and
in the further commit. -/
structure OnlyAsksFurther (s t : State) : Prop where
  generation : t.sto.generationEnded = false
  path : t.path = { s.path with jobs := t.path.jobs }
  store : t.sto = { s.sto with waiting := t.sto.waiting, stage := t.sto.stage, further := t.sto.further }

section
variable {f : State → State} {s t u : State}

theorem OnlyAsks.toFurther (h : OnlyAsks s t) : OnlyAsksFurther s t := ⟨h.generation, h.path, by rw [h.store]⟩

theorem OnlyAsksFurther.trans (h : OnlyAsksFurther s t) (g : OnlyAsksFurther t u) : OnlyAsksFurther s u where
  generation := g.generation
  path := by rw [g.path, h.path]
  store := by rw [g.store, h.store]

theorem State.Calm.of_onlyAsksFurther (h : s.Calm) (asks : OnlyAsksFurther s t) : t.Calm := by
  obtain ⟨ended, _, pending, limit⟩ := h
  exact ⟨by rw [asks.store]; exact ended, asks.generation, by rw [asks.path]; exact pending,
    by rw [asks.path]; exact limit⟩

/-- A settled state stays calm under a command that asks for jobs, commits and a further commit alone. -/
theorem runCommand_asksFurther (settled : s.Settled) (run : f (clearLines s) = t) (asks : OnlyAsksFurther s t)
    (hold : t.sup.holdDue = s.sup.holdDue) (restart : t.sup.restartDue = s.sup.restartDue) : runCommand f s = .next t :=
  have calm := settled.calm.of_onlyAsksFurther asks
  runCommand_eq settled.powered run calm.ended calm.cutAsked (hold.trans settled.holdDue) (restart.trans settled.restartDue)

theorem conditionMet_asks (k : TamperKind) (generation : s.sto.generationEnded = false) :
    OnlyAsksFurther s (conditionMet k s) := by
  rw [conditionMet_eq]
  exact ⟨generation, rfl, rfl⟩

theorem conditionAbsent_asks (k : TamperKind) (generation : s.sto.generationEnded = false) : OnlyAsks s (conditionAbsent k s) :=
  (OnlyAsks.refl generation).modTam _

/-- A condition that becomes present only waits, or moves its latch. -/
theorem conditionPresent_cases (k : TamperKind) (s : State) : conditionPresent k s = (s.modTam fun m => m.setCond k true) ∨
    conditionPresent k s = moveLatch true k .active .tamperSet (conditionMet k s) := by
  cases loaded : s.tam.loaded with
  | false => exact .inl (conditionPresent_unloaded k loaded)
  | true =>
    by_cases active : s.tam.latches.get k = .active
    · exact .inl (conditionPresent_active active)
    · exact .inr (conditionPresent_moves loaded active)

theorem conditionPresent_asks (k : TamperKind) (generation : s.sto.generationEnded = false) :
    OnlyAsksFurther s (conditionPresent k s) := by
  have met := conditionMet_asks k generation
  rcases conditionPresent_cases k s with same | moves
  · rw [same]
    exact ((OnlyAsks.refl generation).modTam _).toFurther
  · rw [moves]
    exact met.trans ((OnlyAsks.refl met.generation).moveLatch _ _ _ _).toFurther

theorem conditionPresent_tam_parts (k : TamperKind) (generation : s.sto.generationEnded = false) :
    (conditionPresent k s).tam = { s.tam.setCond k true with
      latches := (conditionPresent k s).tam.latches, bypass := (conditionPresent k s).tam.bypass
      tripReported := (conditionPresent k s).tam.tripReported } := by
  rcases conditionPresent_cases k s with same | moves
  · rw [same]
    rfl
  · rw [moves, moveLatch_tam_parts _ _ _ (conditionMet_asks k generation).generation, conditionMet_eq]
    rfl

/-- Where no operation starts the BYPASS condition is as it has been reported. -/
theorem conditionPresent_tam_still (k : TamperKind) (still : s.sw.opens = false) :
    (conditionPresent k s).tam.bypass = (s.tam.setCond k true).bypass := by
  rcases conditionPresent_cases k s with same | moves
  · rw [same]
    rfl
  · rw [moves, moveLatch_tam_still _ _ _ (by rw [conditionMet_eq]; exact still), conditionMet_eq]
    rfl

theorem moveLatch_still (k : TamperKind) (v : Latch) (e : EventKind) (still : s.sw.opens = false) :
    s.sw.Still (moveLatch true k v e s).sw := by
  rw [moveLatch_sw]
  split
  · exact .refl _
  · exact report_trip_still still _

theorem conditionPresent_still (k : TamperKind) (still : s.sw.opens = false) :
    s.sw.Still (conditionPresent k s).sw := by
  rcases conditionPresent_cases k s with same | moves
  · rw [same]
    exact .refl _
  · have sw : (conditionMet k s).sw = s.sw := by rw [conditionMet_eq]; rfl
    rw [moves, ← sw]
    exact moveLatch_still _ _ _ (by rw [sw]; exact still)

theorem bypassPresent_asks (generation : s.sto.generationEnded = false) : OnlyAsksFurther s (bypassPresent s) := by
  unfold bypassPresent
  split
  · exact (OnlyAsks.refl generation).toFurther
  · obtain ⟨ended, path, store⟩ :=
      conditionPresent_asks (s := s.modSw fun w => { w with bypass := true }) .bypass generation
    exact ⟨ended, path, store⟩

/-! ## The reports of the monitors (R48 to R51, R125, R140) -/

theorem monitorReport_asks (m : Monitor) (active : Bool) (generation : s.sto.generationEnded = false) :
    OnlyAsksFurther s (monitorReport m active s) := by
  have same := OnlyAsks.refl generation
  cases m with
  | hall =>
    cases active with
    | true => exact conditionPresent_asks .magnet generation
    | false => exact (conditionAbsent_asks .magnet generation).toFurther
  | temp => exact (same.report _).toFurther
  | loadv =>
    have absent : OnlyAsks s (bypassAbsent s) := ((OnlyReports.refl generation).bypassAbsent).toOnlyAsks
    simp only [monitorReport, loadvReport]
    split
    · exact same.toFurther
    · split
      · split
        · exact same.toFurther
        · exact bypassPresent_asks generation
      · exact absent.toFurther

/-- R48: the run toward the other state, and the length at which the state changes. -/
theorem due_iff (m : Monitor) (v : MonitorState) : v.due (Monitor.lengths m) = true ↔
    (match m with | .hall => if v.active then 48 else 3 | .temp => 8 | .loadv => 5) ≤
      if v.active then v.absentRun else v.activeRun := by
  rw [MonitorState.due]
  cases v.active <;> cases m <;> exact decide_eq_true_iff

theorem monitorChange_of_due {m : Monitor} (h : (s.smp.monitor m).due (Monitor.lengths m) = true) : monitorChange m s =
    monitorReport m (!(s.smp.monitor m).active) (s.modSmp fun x => x.setMonitor m (s.smp.monitor m).change) := by
  have active : ∀ v : MonitorState, v.change.active = !v.active := fun v => by
    cases h : v.active <;> simp [MonitorState.change, h]
  rw [← active]
  exact if_pos h

/-- R125: THERMAL follows TEMP, behind an overload trip that is due (log entry 8). -/
theorem followed_thermal_reasons (w : Switch) (b : Bool) : (w.followed .thermal b).reasons = { w.reasons with
    thermal := b, limit := w.reasons.limit || (250 ≤ w.overRun && b && !w.reasons.thermal) } := by
  rw [Switch.followed_reasons, Switch.tripped_reasons]
  generalize w.reasons = m
  obtain ⟨credit, limit, tamper, thermal, store, unset⟩ := m
  cases thermal <;> cases b <;> simp [Reasons.has, Reasons.put]

/-! ### LOADV in an open period (R140, R153) -/

/-- Outside an open period, and where the report changes nothing, LOADV is silent. -/
theorem loadvReport_silent (active : Bool) (h : s.sw.openPeriod = false ∨
    (if active then s.sw.relayFound = true ∨ s.sw.bypass = true else s.sw.bypass = false)) : loadvReport active s = s := by
  rcases h with outside | same
  · simp [loadvReport, outside]
  · cases active with
    | false => simp [loadvReport, bypassAbsent, show s.sw.bypass = false from same]
    | true =>
      rcases same with found | present
      · simp [loadvReport, found]
      · simp [loadvReport, bypassPresent, present]

theorem loadvReport_present (period : s.sw.openPeriod = true) (found : s.sw.relayFound = false)
    (absent : s.sw.bypass = false) :
    loadvReport true s = conditionPresent .bypass (s.modSw fun w => { w with bypass := true }) := by
  simp [loadvReport, bypassPresent, period, found, absent]

theorem loadvReport_absent (period : s.sw.openPeriod = true) (present : s.sw.bypass = true) :
    loadvReport false s = conditionAbsent .bypass (s.modSw fun w => { w with bypass := false }) := by
  simp [loadvReport, bypassAbsent, period, present]

/-- R140: what LOADV tells of BYPASS with the relay OPEN, as its monitor leaves the state `was`. -/
theorem loadvReport_open (was : Bool) (generation : s.sto.generationEnded = false) (period : s.sw.openPeriod = true)
    (relay : s.sw.relay = .opened) :
    let t := loadvReport (!was) s
    let reported := was = false ∧ s.sw.relayFound = false
    let reports := (reported ∧ s.sw.bypass = false) ∨ (was = true ∧ s.sw.bypass = true)
    t.sw.bypass = (if reported then true else if was then false else s.sw.bypass) ∧
    (reports → t.tam.bypass = t.sw.bypass ∧
      ConditionTaken (s.modSw fun w => { w with bypass := t.sw.bypass }) t .bypass t.sw.bypass) ∧
    (¬ reports → t = s) := by
  intro t reported reports
  by_cases silent : if was then s.sw.bypass = false else s.sw.relayFound = true ∨ s.sw.bypass = true
  case pos =>
    have same : t = s := loadvReport_silent (!was) (.inr (by cases was <;> exact silent))
    refine ⟨?_, fun tells => absurd silent ?_, fun _ => same⟩
    · rw [same]
      cases was with
      | true => simpa [reported] using silent
      | false =>
        rcases silent with found | present
        · simp [reported, found]
        · simp [present]
    · rcases tells with ⟨⟨absent, found⟩, notBypassed⟩ | ⟨active, present⟩
      · simp [absent, found, notBypassed]
      · simp [active, present]
  case neg =>
    cases was with
    | true =>
      have present : s.sw.bypass = true := by simpa using silent
      have same : t = _ := loadvReport_absent period present
      have taken := conditionAbsent_taken .bypass (s.modSw fun w => { w with bypass := false })
      rw [← same] at taken
      have bypass : t.sw.bypass = false := by rw [same]; rfl
      refine ⟨by simp [bypass, reported], fun _ => ⟨?_, ?_⟩, fun quiet => absurd (.inr ⟨rfl, present⟩) quiet⟩
      · rw [bypass, same]
        exact congrArg Tamper.bypass (conditionAbsent_tam _ _)
      · rw [bypass]
        exact taken
    | false =>
      obtain ⟨found, absent⟩ : s.sw.relayFound = false ∧ s.sw.bypass = false := by simpa using silent
      have same : t = _ := loadvReport_present period found absent
      let told := s.modSw fun w => { w with bypass := true }
      have still : told.sw.opens = false := Switch.opens_of_not_closed (by simp [told, relay])
      have bypass : t.sw.bypass = true := by
        rw [same]
        exact (conditionPresent_still .bypass still).bypass
      refine ⟨by simp [bypass, reported, found], fun _ => ⟨?_, ?_⟩, fun quiet => absurd (.inl ⟨⟨rfl, found⟩, absent⟩) quiet⟩
      · rw [bypass, same]
        exact conditionPresent_tam_still .bypass still
      · rw [bypass, same]
        exact conditionPresent_taken (s := told) generation fun _ => still

/-- Settles O22, monitor by monitor. -/
theorem monitorChangesState : Obligations.MonitorChangesState := by
  unfold Obligations.MonitorChangesState
  intro s m settled run length
  have due : (s.smp.monitor m).due (Monitor.lengths m) = true ↔ length ≤ run := by
    rw [due_iff]
    cases m <;> exact Iff.rfl
  refine ⟨fun short => ?short, fun long => ?due⟩
  case short =>
    refine runCommand_within (f := monitorChange m) settled.toQuiet ?_ rfl rfl rfl
    exact monitorChange_of_not_due (s := clearLines s)
      (Bool.eq_false_iff.mpr fun isDue => Nat.not_le.mpr short (due.mp isDue))
  case due =>
    let v := s.smp.monitor m
    let u := (clearLines s).modSmp fun x => x.setMonitor m v.change
    have isDue : v.due (Monitor.lengths m) = true := due.mpr long
    have changes : monitorChange m (clearLines s) = monitorReport m (!v.active) u :=
      monitorChange_of_due (s := clearLines s) isDue
    have asks := monitorReport_asks (s := u) m (!v.active) settled.generation
    have frame : Frame [.path, .sto, .sw, .tam, .log] u (monitorReport m (!v.active) u) := by simp
    have next : exec (.monitorStateChange m) s = .next (monitorReport m (!v.active) u) :=
      runCommand_asksFurther (f := monitorChange m) settled changes ⟨asks.generation, asks.path, asks.store⟩
        (congrArg Supply.holdDue (frame.sup (by decide))) (congrArg Supply.restartDue (frame.sup (by decide)))
    refine ⟨_, next, ?smp, ?frame, ?magnet, ?thermal, ?outside, ?period⟩
    case smp => exact frame.smp (by decide)
    case frame =>
      exact State.eq_of_blocks (frame.pins (by decide)) (frame.lines (by decide)) asks.path (frame.win (by decide)) rfl
        (frame.eng (by decide)) asks.store (frame.dec (by decide)) rfl rfl rfl (frame.sup (by decide)) (frame.port (by decide))
        (frame.free (by decide)) (frame.pending (by decide))
    case magnet =>
      rintro rfl
      cases active : s.smp.hall.active with
      | false =>
        have taken : ConditionTaken u (monitorReport .hall (!v.active) u) .magnet true := by
          rw [show v.active = false from active]
          exact conditionPresent_taken settled.generation nofun
        refine ⟨?_, taken.of_blocks rfl rfl rfl rfl rfl rfl rfl rfl⟩
        rw [show v.active = false from active]
        exact congrArg Tamper.magnet (conditionPresent_tam_parts (s := u) .magnet settled.generation)
      | true =>
        have taken : ConditionTaken u (monitorReport .hall (!v.active) u) .magnet false := by
          rw [show v.active = true from active]
          exact conditionAbsent_taken _ _
        refine ⟨?_, taken.of_blocks rfl rfl rfl rfl rfl rfl rfl rfl⟩
        rw [show v.active = true from active]
        exact congrArg Tamper.magnet (conditionAbsent_tam .magnet u)
    case thermal =>
      rintro rfl record
      have sw : (monitorReport .temp (!v.active) u).sw = { s.sw with tempHot := !v.active }.followed .thermal (!v.active) :=
        (report_temp_sw _ u).trans (if_neg (by exact Bool.eq_false_iff.mp record))
      rw [sw, followed_thermal_reasons, Switch.moved_followed]
      exact ⟨rfl, rfl⟩
    case outside =>
      rintro rfl outside
      have same : monitorReport .loadv (!v.active) u = u := loadvReport_silent (s := u) _ (.inl outside)
      rw [same]
      exact ⟨rfl, rfl⟩
    case period =>
      rintro rfl period relay
      obtain ⟨bypass, told, quiet⟩ := loadvReport_open (s := u) v.active settled.generation period relay
      refine ⟨bypass, fun reports => ?_, fun silent => ?_⟩
      · obtain ⟨tam, taken⟩ := told reports
        exact ⟨tam, taken.of_blocks rfl rfl rfl rfl rfl rfl rfl rfl⟩
      · rw [show monitorReport .loadv (!v.active) u = u from quiet silent]
        exact ⟨rfl, rfl, rfl, rfl⟩

end
end Sys2Proof.Machine

namespace Sys2Proof.Machine

open Sys2Proof

/-! ## The settle of an operation (R129, R137, R138) -/

/-- R138 step 1: the relay has settled. -/
def Switch.settled (w : Switch) (closed : Bool) : Switch :=
  { w with op := none, relay := if closed then .closed else .opened }

/-- R138 step 5. -/
def Switch.period (w : Switch) (closed marked : Bool) : Switch :=
  if closed then { w with clean := 0 } else { w with openPeriod := true, ilRun := 0, relayFound := marked }

/-- Log entry 45: TAMPER has entered the set of a closed relay, and an opening has started: that of a trip which was due, or its own. -/
structure Switch.TamperOpened (w v : Switch) : Prop where
  relay : v.relay = .opening
  newly : v.reasons.tamper = true ∧ w.reasons.tamper = false
  op : ∃ r, v.op = some (startedOp (some r)) ∧ (w.overRun < 250 → r = .tamper)

/-- R138 steps 1 and 2: the relay settles, and a failure is found. -/
def settleFound (closed failed il loadv : Bool) (s : State) : State :=
  let settled := s.modSw fun w => w.settled closed
  if failed then failureFinding closed il loadv settled else settled

section
variable {s t u : State} {w v : Switch}

/-! ### The Switch Controller at a settle -/

@[simp] theorem Switch.period_reasons (w : Switch) (c m : Bool) : (w.period c m).reasons = w.reasons := by
  unfold period
  split <;> rfl

theorem Switch.evaluated_of_not_mayStart (h : w.mayStart = false) : w.evaluated = w := by simp [evaluated, h]

/-- R129: the evaluation leaves the relay, or starts the operation that the set asks for. -/
theorem Switch.evaluated_cases (w : Switch) : w.evaluated = w ∨
    ∃ c r, w.evaluated = w.started c r ∧ w.relay = if c then .opened else .closed := by
  unfold evaluated
  split
  case isFalse => exact .inl rfl
  case isTrue =>
    split
    case h_1 relay =>
      split
      · exact .inl rfl
      · exact .inr ⟨false, _, rfl, relay⟩
    case h_2 relay =>
      split
      · exact .inr ⟨true, _, rfl, relay⟩
      · exact .inl rfl
    case h_3 => exact .inl rfl
    case h_4 => exact .inl rfl

theorem Switch.evaluated_clean (w : Switch) : w.evaluated.clean = w.clean := by
  rcases w.evaluated_cases with same | ⟨c, r, starts, -⟩
  · rw [same]
  · rw [starts]
    rfl

theorem Switch.evaluated_armed (w : Switch) : w.evaluated.armed = w.armed := by
  rcases w.evaluated_cases with same | ⟨c, r, starts, -⟩
  · rw [same]
  · rw [starts]
    rfl

/-- An evaluation that leaves no operation in flight has started none. -/
theorem Switch.evaluated_of_op (h : w.evaluated.op = none) : w.evaluated = w := by
  rcases w.evaluated_cases with same | ⟨c, r, starts, -⟩
  · exact same
  · rw [starts] at h
    exact nomatch h

/-- An evaluation that leaves the relay OPEN has started none. -/
theorem Switch.evaluated_of_opened (h : w.evaluated.relay = .opened) : w.evaluated = w := by
  rcases w.evaluated_cases with same | ⟨c, r, starts, -⟩
  · exact same
  · rw [starts] at h
    cases c <;> exact nomatch h

theorem Switch.evaluated_closed_rests (relay : w.relay = .closed) (empty : w.reasons.isEmpty = true) : w.evaluated = w := by
  simp [evaluated, relay, empty]

theorem Switch.evaluated_closed_opens (starts : w.mayStart = true) (relay : w.relay = .closed)
    (notEmpty : w.reasons.isEmpty = false) : w.evaluated = w.started false w.reasons.first := by
  simp [evaluated, starts, relay, notEmpty]

theorem Switch.evaluated_opened_rests (relay : w.relay = .opened) (keeps : w.reasons.isEmpty = false ∨ w.armed = true) :
    w.evaluated = w := by
  rcases keeps with notEmpty | armed
  · simp [evaluated, relay, notEmpty]
  · simp [evaluated, relay, armed]

theorem Switch.evaluated_opened_closes (starts : w.mayStart = true) (relay : w.relay = .opened)
    (empty : w.reasons.isEmpty = true) (armed : w.armed = false) : w.evaluated = w.started true none := by
  simp [evaluated, starts, relay, empty, armed]

theorem Switch.evaluated_in_flight (relay : w.relay = .opening ∨ w.relay = .closing) : w.evaluated = w := by
  rcases relay with h | h <;> simp [evaluated, h]

/-- R141: the trip, before LIMIT enters the set. -/
def Switch.runEnded (w : Switch) : Switch :=
  { w with limitDelay := limitDelayOf w.retry, retry := min (w.retry + 1) 4, clean := 0, overRun := 0 }

theorem Switch.tripped_of_limit (due : 250 ≤ w.overRun) (limit : w.reasons.limit = true) : w.tripped = w.runEnded :=
  (if_pos due).trans (if_pos limit)

theorem Switch.tripped_of_no_limit (due : 250 ≤ w.overRun) (limit : w.reasons.limit = false) :
    w.tripped = w.runEnded.entered .limit :=
  (if_pos due).trans (if_neg (Bool.eq_false_iff.mp limit))

theorem Switch.entered_of_opens (h : w.opens = true) (r : Reason) :
    w.entered r = { w with reasons := w.reasons.put r true, armed := false }.started false (some r) := if_pos h

/-- R127, R141, log entry 8: a reason that enters the set of a relay which opens comes behind the trip that was due, whose opening then
is LIMIT's. -/
theorem Switch.tripped_entered_opens (h : w.opens = true) (r : Reason) :
    (w.tripped.entered r).relay = .opening ∧ (w.tripped.entered r).armed = false ∧ (w.tripped.entered r).overRun = 0 ∧
    (w.tripped.entered r).op =
      some (startedOp (some (if 250 ≤ w.overRun ∧ w.reasons.limit = false then .limit else r))) := by
  by_cases due : 250 ≤ w.overRun
  case neg =>
    rw [show w.tripped = w from if_neg due, entered_of_opens h, if_neg (due ∘ And.left)]
    exact ⟨rfl, rfl, rfl, rfl⟩
  case pos =>
    cases limit : w.reasons.limit with
    | true =>
      rw [tripped_of_limit due limit, entered_of_opens (w := w.runEnded) h, if_neg (by simp)]
      exact ⟨rfl, rfl, rfl, rfl⟩
    | false =>
      rw [tripped_of_no_limit due limit, entered_of_opens (w := w.runEnded) h, entered_of_still rfl, if_pos ⟨due, rfl⟩]
      exact ⟨rfl, rfl, rfl, rfl⟩

/-- R127, log entry 45: a trip condition told to a relay that has just CLOSED starts no operation, or TAMPER has newly entered. -/
theorem Switch.followed_tamper_closed (relay : w.relay = .closed) (starts : w.mayStart = true) (b : Bool) :
    (w.Still (w.followed .tamper b) ∧ ((w.followed .tamper b).reasons.tamper = true → w.reasons.tamper = true)) ∨
    w.TamperOpened (w.followed .tamper b) := by
  have opens : w.opens = true := by simp [opens, relay, starts]
  unfold followed
  split
  case isTrue => exact .inl ⟨.refl w, id⟩
  case isFalse other =>
    cases b with
    | false =>
      refine .inl ⟨left_still w rfl, fun present => ?_⟩
      rw [if_neg Bool.false_ne_true, left_reasons] at present
      exact nomatch present
    | true =>
      obtain ⟨relay, -, -, op⟩ := tripped_entered_opens opens .tamper
      refine .inr ⟨relay, ⟨?_, Bool.eq_false_iff.mpr other⟩, _, op, fun early => if_neg (by omega)⟩
      rw [if_pos rfl, entered_reasons]
      rfl

/-! ### One-shot findings (R149, R150) -/

theorem finding_unloaded (k : TamperKind) (loaded : s.tam.loaded = false) :
    finding k s = s.modTam fun m => { m with waiting := m.waiting.add k } := if_neg (by simp [loaded])

theorem finding_clear {k : TamperKind} (loaded : s.tam.loaded = true) (clear : s.tam.latches.get k = .clear) :
    finding k s = moveLatch true k .held .tamperSet s := (if_pos loaded).trans (if_pos clear)

theorem finding_set {k : TamperKind} (loaded : s.tam.loaded = true) (isSet : s.tam.latches.get k ≠ .clear) :
    finding k s = s := (if_pos loaded).trans (if_neg isSet)

/-- A finding waits, moves its latch, or finds the latch set. -/
theorem finding_cases (k : TamperKind) (s : State) :
    finding k s = (s.modTam fun m => { m with waiting := m.waiting.add k }) ∨ finding k s = s ∨
    finding k s = moveLatch true k .held .tamperSet s := by
  cases loaded : s.tam.loaded with
  | false => exact .inl (finding_unloaded k loaded)
  | true =>
    by_cases clear : s.tam.latches.get k = .clear
    · exact .inr (.inr (finding_clear loaded clear))
    · exact .inr (.inl (finding_set loaded clear))

/-- What a finding tells the Switch Controller is at most a changed trip condition. -/
theorem finding_sw (k : TamperKind) (s : State) :
    (finding k s).sw = s.sw ∨ ∃ b, (finding k s).sw = (report (.trip b) s).sw := by
  rcases finding_cases k s with waits | same | moves
  · exact .inl (by rw [waits]; rfl)
  · exact .inl (congrArg State.sw same)
  · rw [moves, moveLatch_sw]
    split
    · exact .inl rfl
    · exact .inr ⟨_, rfl⟩

theorem finding_still (k : TamperKind) (still : s.sw.opens = false) : s.sw.Still (finding k s).sw := by
  rcases finding_sw k s with same | ⟨b, told⟩
  · rw [same]
    exact .refl _
  · rw [told]
    exact report_trip_still still b

theorem finding_tam_parts (k : TamperKind) (generation : s.sto.generationEnded = false) :
    (finding k s).tam = { s.tam with
      latches := (finding k s).tam.latches, waiting := (finding k s).tam.waiting, bypass := (finding k s).tam.bypass
      tripReported := (finding k s).tam.tripReported } := by
  rcases finding_cases k s with waits | same | moves
  · rw [waits]
    rfl
  · rw [same]
  · rw [moves, moveLatch_tam_parts _ _ _ generation]

/-- R149, R150: RELAY is found. -/
theorem finding_relay_taken (generation : s.sto.generationEnded = false) :
    FindingTaken s (finding .relay s) Latches.relay Findings.relay := by
  refine ⟨fun loaded => ?_, fun unloaded => ?_⟩
  · by_cases clear : s.tam.latches.relay = .clear
    · rw [finding_clear (k := .relay) loaded clear, moveLatch_latches _ _ _ _ generation, if_pos clear]
      rfl
    · rw [finding_set (k := .relay) loaded clear, if_neg clear]
  · rw [finding_unloaded _ unloaded]
    rfl

/-! ### Room for one event more -/

theorem State.LogsEvents.raiseEvent (k : EventKind) (d : Nat) (logs : s.LogsEvents) (room : s.log.queue.length < 7) :
    (raiseEvent k d s).LogsEvents where
  recovered := by rw [raiseEvent_log]; exact logs.recovered
  ring := by rw [raiseEvent_log]; exact logs.ring
  room := by
    rw [raiseEvent_queue k d logs, List.length_append, List.length_singleton]
    omega

theorem State.LogsEvents.of_log (logs : s.LogsEvents) (log : t.log = s.log) : t.LogsEvents :=
  ⟨by rw [log]; exact logs.recovered, by rw [log]; exact logs.ring, by rw [log]; exact logs.room⟩

theorem State.LogsEvents.moveLatch (k : TamperKind) (v : Latch) (e : EventKind) (logs : s.LogsEvents)
    (room : s.log.queue.length < 7) : (moveLatch true k v e s).LogsEvents :=
  (State.LogsEvents.raiseEvent (s := s.modTam _) e k.num ⟨logs.recovered, logs.ring, logs.room⟩ room).of_log
    (moveLatch_log k v e s)

theorem State.LogsEvents.finding (k : TamperKind) (logs : s.LogsEvents) (room : s.log.queue.length < 7) :
    (finding k s).LogsEvents := by
  rcases finding_cases k s with waits | same | moves
  · rw [waits]
    exact logs.of_log rfl
  · rw [same]
    exact logs
  · rw [moves]
    exact logs.moveLatch _ _ _ room

theorem State.LogsEvents.conditionPresent (k : TamperKind) (logs : s.LogsEvents) (room : s.log.queue.length < 7) :
    (conditionPresent k s).LogsEvents := by
  rcases conditionPresent_cases k s with waits | moves
  · rw [waits]
    exact logs.of_log rfl
  · have met : (conditionMet k s).log = s.log := by rw [conditionMet_eq]; rfl
    rw [moves]
    exact (logs.of_log met).moveLatch _ _ _ (by rw [met]; exact room)

theorem State.LogsEvents.bypassPresent (logs : s.LogsEvents) (room : s.log.queue.length < 7) :
    (bypassPresent s).LogsEvents := by
  unfold Machine.bypassPresent
  split
  · exact logs
  · exact State.LogsEvents.conditionPresent (s := s.modSw _) .bypass (logs.of_log rfl) room

/-! ### The finding of a failure (R137) -/

theorem bypassPresent_still (still : s.sw.opens = false) : ({ s.sw with bypass := true } : Switch).Still (bypassPresent s).sw := by
  unfold bypassPresent
  split
  case isTrue present => rw [← present]; exact .refl _
  case isFalse => exact conditionPresent_still (s := s.modSw fun w => { w with bypass := true }) .bypass still

theorem bypassPresent_tam_parts (generation : s.sto.generationEnded = false) : (bypassPresent s).tam = { s.tam with
    latches := (bypassPresent s).tam.latches, bypass := (bypassPresent s).tam.bypass
    tripReported := (bypassPresent s).tam.tripReported } := by
  unfold bypassPresent
  split
  · rfl
  · rw [conditionPresent_tam_parts _ (by exact generation)]
    rfl

/-- R137: what a failure is taken for. -/
theorem failureFinding_cases (closed il loadv : Bool) (s : State) :
    ((closed || il) = true ∧ failureFinding closed il loadv s = finding .relay s) ∨
    ((closed || il) = false ∧ loadv = true ∧ failureFinding closed il loadv s = bypassPresent s) ∨
    ((closed || il) = false ∧ loadv = false ∧ failureFinding closed il loadv s = s) := by
  cases closed <;> cases il <;> cases loadv <;> simp [failureFinding]

theorem failureFinding_asks (closed il loadv : Bool) (generation : s.sto.generationEnded = false) :
    OnlyAsksFurther s (failureFinding closed il loadv s) := by
  rcases failureFinding_cases closed il loadv s with ⟨-, found⟩ | ⟨-, -, found⟩ | ⟨-, -, found⟩ <;> rw [found]
  · exact ((OnlyAsks.refl generation).finding _).toFurther
  · exact bypassPresent_asks generation
  · exact (OnlyAsks.refl generation).toFurther

theorem failureFinding_tam_parts (closed il loadv : Bool) (generation : s.sto.generationEnded = false) :
    (failureFinding closed il loadv s).tam = { s.tam with
      latches := (failureFinding closed il loadv s).tam.latches, waiting := (failureFinding closed il loadv s).tam.waiting
      bypass := (failureFinding closed il loadv s).tam.bypass
      tripReported := (failureFinding closed il loadv s).tam.tripReported } := by
  rcases failureFinding_cases closed il loadv s with ⟨-, found⟩ | ⟨-, -, found⟩ | ⟨-, -, found⟩ <;> rw [found]
  · rw [finding_tam_parts _ generation]
  · rw [bypassPresent_tam_parts generation]

theorem State.LogsEvents.failureFinding (closed il loadv : Bool) (logs : s.LogsEvents) (room : s.log.queue.length < 7) :
    (failureFinding closed il loadv s).LogsEvents := by
  rcases failureFinding_cases closed il loadv s with ⟨-, found⟩ | ⟨-, -, found⟩ | ⟨-, -, found⟩ <;> rw [found]
  · exact logs.finding _ room
  · exact logs.bypassPresent room
  · exact logs

theorem failureFinding_still (closed il loadv : Bool) (still : s.sw.opens = false) :
    ∃ b, ({ s.sw with bypass := b } : Switch).Still (failureFinding closed il loadv s).sw := by
  rcases failureFinding_cases closed il loadv s with ⟨-, found⟩ | ⟨-, -, found⟩ | ⟨-, -, found⟩ <;> rw [found]
  · exact ⟨_, finding_still _ still⟩
  · exact ⟨_, bypassPresent_still still⟩
  · exact ⟨_, .refl _⟩

/-! ### The settle, step by step (R138) -/

section
variable {closed failed il loadv unsync : Bool} {reason : Option Reason}

theorem settlePeriod_sw (closed marked : Bool) (s : State) : (settlePeriod closed marked s).sw = s.sw.period closed marked := by
  cases closed <;> rfl

theorem settleEvent_reports (closed unsync failed : Bool) (reason : Option Reason) (generation : s.sto.generationEnded = false) :
    OnlyReports s (settleEvent closed unsync failed reason s) := by
  have raised : ∀ k d u, OnlyReports s u → OnlyReports s (raiseEvent k d u) := fun k d u h =>
    h.of_tam (h.toOnlyAsks.raiseEvent k d) (Frame.tam (l := [.path, .log]) (by simp) (by decide))
  cases closed with
  | true => exact raised _ _ _ (.refl generation)
  | false =>
    refine raised _ _ _ ?_
    cases reason with
    | some r => exact .refl generation
    | none => exact ⟨⟨generation, rfl, rfl⟩, rfl, id⟩

theorem OnlyReports.settlePeriod (closed marked : Bool) (h : OnlyReports s t) : OnlyReports s (settlePeriod closed marked t) :=
  h.of_frame (l := [.sw]) (by simp) (by decide) (by decide) (by decide)

/-- R129: the evaluation starts an operation at most. -/
theorem OnlyReports.settleEvaluation (h : OnlyReports s t) : OnlyReports s (settleEvaluation t) := by
  unfold Machine.settleEvaluation
  split
  · exact h
  · split
    · split
      · exact h
      · exact h.startOperation _ _
    · split
      · exact h.startOperation _ _
      · exact h
    · exact h
    · exact h

theorem settle_sw : (settle closed failed il loadv unsync reason s).sw =
    ((settleFound closed failed il loadv s).sw.period closed (failed && il)).evaluated := by
  have event : ∀ u, (settleEvent closed unsync failed reason u).sw = u.sw := fun u =>
    Frame.sw (l := [.path, .log, .free]) (by simp) (by decide)
  unfold settle
  dsimp only
  rw [settleEvaluation_sw, settlePeriod_sw, requestCommit_sw, event]
  rfl

theorem settle_log : (settle closed failed il loadv unsync reason s).log =
    (settleEvent closed unsync failed reason (settleFound closed failed il loadv s)).log := by
  have rest : ∀ u, (settleEvaluation (settlePeriod closed (failed && il) (requestCommit .switch u))).log = u.log := fun u =>
    Frame.log (l := [.path, .sto, .sw, .tam]) (by simp) (by decide)
  exact rest _

/-- Beside its finding a settle asks for an append and a commit, and may end BYPASS with the start of an operation. -/
theorem settle_reports (generation : (settleFound closed failed il loadv s).sto.generationEnded = false) :
    OnlyReports (settleFound closed failed il loadv s) (settle closed failed il loadv unsync reason s) :=
  (((settleEvent_reports closed unsync failed reason generation).requestCommit .switch).settlePeriod _ _).settleEvaluation

/-- R138 step 4: the settle asks for a SWITCH commit. -/
theorem settle_owes (generation : (settleFound closed failed il loadv s).sto.generationEnded = false) :
    (settle closed failed il loadv unsync reason s).Owes 6 := by
  have event := settleEvent_reports closed unsync failed reason generation
  have rest : ∀ u, (settleEvaluation (settlePeriod closed (failed && il) u)).sto = u.sto := fun u =>
    Frame.sto (l := [.sw, .tam]) (by simp) (by decide)
  exact (requestCommit_owes .switch event.generation).of_sto (rest _)

/-- R138 step 3: the event of a settle, and its detail where an opening has a reason. -/
theorem settleEvent_last (logs : s.LogsEvents) :
    ∃ e, (settleEvent closed unsync failed reason s).log.queue = s.log.queue ++ [e] ∧
      e.kind = (if closed then .supplyClosed else .supplyOpened) ∧
      ∀ n, (if closed then n = 0 else ∃ r, reason = some r ∧ n = r.num) →
        e.detail = BitVec.ofNat 8 (settleDetail n unsync failed) := by
  cases closed with
  | true => exact ⟨_, raiseEvent_queue _ _ logs, rfl, fun _ number => by rw [show _ = 0 from number]; rfl⟩
  | false =>
    cases reason with
    | some r =>
      refine ⟨_, raiseEvent_queue _ _ logs, rfl, fun n number => ?_⟩
      obtain ⟨q, isReason, rfl⟩ := number
      obtain rfl : r = q := Option.some.inj isReason
      rfl
    | none =>
      refine ⟨_, raiseEvent_queue_of (s := s) _ _ logs rfl rfl rfl, rfl, fun n number => ?_⟩
      obtain ⟨q, isReason, -⟩ := number
      exact nomatch isReason

end

end
end Sys2Proof.Machine

namespace Sys2Proof.Machine

open Sys2Proof

section
variable {s t u : State} {w v : Switch} {closed failed il loadv unsync : Bool} {reason : Option Reason}

/-! ### The relay at rest, and its finding (R137, R138) -/

/-- The relay has settled, and nothing has moved it since. -/
structure Switch.Rests (v : Switch) (closed held : Bool) : Prop where
  relay : v.relay = if closed then .closed else .opened
  op : v.op = none
  held : v.held = held

theorem Switch.rests_settled (w : Switch) (closed : Bool) : (w.settled closed).Rests closed w.held := ⟨rfl, rfl, rfl⟩

theorem Switch.Rests.of_still {b held : Bool} (h : w.Rests closed held) (still : ({ w with bypass := b } : Switch).Still v) :
    v.Rests closed held :=
  ⟨still.relay.trans h.relay, still.op.trans h.op, still.held.trans h.held⟩

theorem Switch.Rests.period {held : Bool} (h : w.Rests closed held) (c m : Bool) : (w.period c m).Rests closed held := by
  cases c <;> exact ⟨h.relay, h.op, h.held⟩

theorem Switch.Rests.not_mayStart (h : w.Rests closed true) : w.mayStart = false := by simp [mayStart, h.held]

theorem Switch.Rests.mayStart (h : w.Rests closed false) : w.mayStart = true := by simp [Switch.mayStart, h.held, h.op]

/-- R127: the relay opens only where it has settled CLOSED and the holdback is FREE. -/
theorem Switch.settled_opens (h : closed = false ∨ w.held = true) : (w.settled closed).opens = false := by
  rcases h with rfl | held
  · rfl
  · exact opens_of_held held

theorem settleFound_rests (h : closed = false ∨ s.sw.held = true) :
    (settleFound closed failed il loadv s).sw.Rests closed s.sw.held := by
  have rests := s.sw.rests_settled closed
  unfold settleFound
  dsimp only
  split
  · obtain ⟨b, still⟩ := failureFinding_still (s := s.modSw fun w => w.settled closed) closed il loadv (Switch.settled_opens h)
    exact rests.of_still still
  · exact rests

/-- Log entry 45: a relay that has settled CLOSED rests, or TAMPER has newly entered and opened it. -/
theorem settleFound_closed (held : s.sw.held = false) :
    ((settleFound true failed il loadv s).sw.Rests true false ∧
      ((settleFound true failed il loadv s).sw.reasons.tamper = true → s.sw.reasons.tamper = true)) ∨
    s.sw.TamperOpened (settleFound true failed il loadv s).sw := by
  have rests : (s.sw.settled true).Rests true false := held ▸ s.sw.rests_settled true
  cases failed with
  | false => exact .inl ⟨rests, id⟩
  | true =>
    rcases finding_sw .relay (s.modSw fun w => w.settled true) with same | ⟨b, told⟩
    · rw [show (settleFound true true il loadv s).sw = _ from same]
      exact .inl ⟨rests, id⟩
    · rw [show (settleFound true true il loadv s).sw = _ from told, report_trip_sw]
      split
      · exact .inl ⟨⟨rfl, rfl, held⟩, id⟩
      · rcases Switch.followed_tamper_closed (w := { s.sw.settled true with trip := b }) rfl rests.mayStart b with
          ⟨still, tamper⟩ | opened
        · exact .inl ⟨⟨still.relay, still.op, still.held.trans held⟩, tamper⟩
        · exact .inr ⟨opened.relay, opened.newly, opened.op⟩

/-! ### What the settle makes of the Switch Controller (R129, R138) -/

theorem settle_held (held : s.sw.held = true) : (settle closed failed il loadv unsync reason s).sw.Rests closed true := by
  have rests := (held ▸ settleFound_rests (closed := closed) (failed := failed) (il := il) (loadv := loadv) (.inr held)).period
    closed (failed && il)
  rw [settle_sw, Switch.evaluated_of_not_mayStart rests.not_mayStart]
  exact rests

theorem settle_clean (isClosed : closed = true) : (settle closed failed il loadv unsync reason s).sw.clean = 0 := by
  subst isClosed
  rw [settle_sw, Switch.evaluated_clean]
  rfl

theorem settle_reasons : (settle closed failed il loadv unsync reason s).sw.reasons =
    (settleFound closed failed il loadv s).sw.reasons := by
  rw [settle_sw, Switch.evaluated_reasons, Switch.period_reasons]

/-- R129, log entry 45: a CLOSED relay opens where the set is not empty. -/
theorem settle_closed (isClosed : closed = true) (held : s.sw.held = false) :
    let t := settle closed failed il loadv unsync reason s
    (t.sw.reasons.isEmpty = true → t.sw.Rests closed false) ∧
    (t.sw.reasons.isEmpty = false → t.sw.relay = .opening ∧ ∃ r, t.sw.op = some (startedOp r) ∧ (s.sw.overRun < 250 →
      r = if t.sw.reasons.tamper = true ∧ s.sw.reasons.tamper = false then some .tamper else t.sw.reasons.first)) := by
  subst isClosed
  intro t
  have reasons : t.sw.reasons = (settleFound true failed il loadv s).sw.reasons := settle_reasons
  have sw : t.sw = _ := settle_sw
  rw [reasons]
  rcases settleFound_closed (failed := failed) (il := il) (loadv := loadv) held with ⟨rests, tamper⟩ | opened
  · have rests := rests.period true (failed && il)
    refine ⟨fun empty => ?_, fun notEmpty => ?_⟩
    · rw [sw, Switch.evaluated_closed_rests rests.relay empty]
      exact rests
    · rw [sw, Switch.evaluated_closed_opens rests.mayStart rests.relay notEmpty]
      refine ⟨rfl, _, rfl, fun _ => (if_neg ?_).symm⟩
      rintro ⟨present, absent⟩
      exact nomatch absent.symm.trans (tamper present)
  · obtain ⟨r, op, early⟩ := opened.op
    obtain ⟨present, absent⟩ := opened.newly
    refine ⟨fun empty => ?_, fun _ => ?_⟩
    · exact nomatch empty.symm.trans (Reasons.isEmpty_of_has (r := .tamper) present)
    · rw [sw, Switch.evaluated_in_flight (w := Switch.period _ true _) (.inl opened.relay)]
      exact ⟨opened.relay, some r, op, fun run => by rw [early run, if_pos ⟨present, absent⟩]⟩

/-- R129: an OPEN relay closes where the set is empty and the supply is not armed. -/
theorem settle_opened (isOpened : closed = false) (held : s.sw.held = false) :
    let t := settle closed failed il loadv unsync reason s
    (t.sw.reasons.isEmpty = false ∨ t.sw.armed = true → t.sw.Rests closed false) ∧
    (t.sw.reasons.isEmpty = true → t.sw.armed = false → t.sw.relay = .closing ∧ t.sw.op = some (startedOp none)) := by
  subst isOpened
  intro t
  have rests := (held ▸ settleFound_rests (failed := failed) (il := il) (loadv := loadv) (s := s) (.inl rfl)).period
    false (failed && il)
  have sw : t.sw = _ := settle_sw
  rw [sw, Switch.evaluated_reasons, Switch.evaluated_armed]
  refine ⟨fun keeps => ?_, fun empty armed => ?_⟩
  · rw [Switch.evaluated_opened_rests rests.relay keeps]
    exact rests
  · rw [Switch.evaluated_opened_closes rests.mayStart rests.relay empty armed]
    exact ⟨rfl, rfl⟩

/-- R138 step 5: a relay that stays OPEN begins an open period. -/
theorem settle_openPeriod :
    let t := settle closed failed il loadv unsync reason s
    t.sw.relay = .opened → t.sw.openPeriod = true ∧ t.sw.ilRun = 0 ∧ t.sw.relayFound = (failed && il) := by
  intro t opened
  have sw : t.sw = _ := settle_sw
  rw [sw] at opened
  have rested := Switch.evaluated_of_opened opened
  rw [sw, rested]
  rw [rested] at opened
  cases closed with
  | false => exact ⟨rfl, rfl, rfl⟩
  | true =>
    cases held : s.sw.held with
    | true =>
      have rests := settleFound_rests (closed := true) (failed := failed) (il := il) (loadv := loadv) (.inr held)
      exact nomatch opened.symm.trans rests.relay
    | false =>
      rcases settleFound_closed (failed := failed) (il := il) (loadv := loadv) held with ⟨rests, -⟩ | tamper
      · exact nomatch opened.symm.trans rests.relay
      · exact nomatch opened.symm.trans tamper.relay

/-- R137, R140: an opening that finds a live load side and no current reports BYPASS, which lasts until an operation starts. -/
theorem settle_bypass (isOpened : closed = false) (isFailed : failed = true) (current : il = false) (live : loadv = true) :
    let t := settle closed failed il loadv unsync reason s
    t.sw.op = none → t.sw.bypass = true := by
  subst isOpened isFailed current live
  intro t op
  have sw : t.sw = _ := settle_sw
  rw [sw] at op ⊢
  rw [Switch.evaluated_of_op op]
  exact (bypassPresent_still (s := s.modSw fun w => w.settled false) (Switch.settled_opens (.inl rfl))).bypass

/-! ### What the settle asks for -/

theorem settleFound_asks (generation : s.sto.generationEnded = false) :
    OnlyAsksFurther s (settleFound closed failed il loadv s) := by
  unfold settleFound
  dsimp only
  split
  · obtain ⟨ended, path, store⟩ :=
      failureFinding_asks (s := s.modSw fun w => w.settled closed) closed il loadv generation
    exact ⟨ended, path, store⟩
  · exact ⟨generation, rfl, rfl⟩

theorem settleFound_tam_parts (generation : s.sto.generationEnded = false) :
    let t := settleFound closed failed il loadv s
    t.tam = { s.tam with
      latches := t.tam.latches, waiting := t.tam.waiting, bypass := t.tam.bypass, tripReported := t.tam.tripReported } := by
  unfold settleFound
  dsimp only
  split
  · exact failureFinding_tam_parts (s := s.modSw fun w => w.settled closed) closed il loadv generation
  · rfl

theorem settleFound_logs (logs : s.LogsEvents) (room : s.log.queue.length < 7) :
    (settleFound closed failed il loadv s).LogsEvents := by
  unfold settleFound
  dsimp only
  split
  · exact State.LogsEvents.failureFinding (s := s.modSw _) _ _ _ (logs.of_log rfl) room
  · exact logs.of_log rfl

theorem settle_asks (generation : s.sto.generationEnded = false) :
    OnlyAsksFurther s (settle closed failed il loadv unsync reason s) :=
  have found := settleFound_asks generation
  found.trans (settle_reports found.generation).toOnlyAsks.toFurther

theorem settle_tam_parts (generation : s.sto.generationEnded = false) :
    let t := settle closed failed il loadv unsync reason s
    t.tam = { s.tam with
      latches := t.tam.latches, waiting := t.tam.waiting, bypass := t.tam.bypass, tripReported := t.tam.tripReported } := by
  intro t
  have found : OnlyAsksFurther s (settleFound closed failed il loadv s) := settleFound_asks generation
  have told : t.tam = _ := (settle_reports found.generation).tamper
  rw [told, settleFound_tam_parts generation]

/-! ### The attempt is judged (R136, R137) -/

theorem Relay.towardClosed_iff (r : Relay) : r.towardClosed = true ↔ r = .closed ∨ r = .closing := by
  cases r <;> simp [towardClosed]

theorem ilPresent_iff (c : Calibration) (sum : Nat) : ilPresent c sum = true ↔ 64 * c.creepCurrent ^ 2 ≤ sum := by
  simp [ilPresent, sq]

theorem loadvPresent_iff (c : Calibration) (largest : Nat) : loadvPresent c largest = true ↔ c.vOn ≤ largest := by
  simp [loadvPresent]

/-- R136: the capture confirms the direction. -/
theorem confirms_iff (c : Calibration) (r : Relay) (largest sum : Nat) : confirms c r.towardClosed largest sum = true ↔
    if r = .closed ∨ r = .closing then c.vOn ≤ largest else ¬ c.vOn ≤ largest ∧ ¬ 64 * c.creepCurrent ^ 2 ≤ sum := by
  rw [← ilPresent_iff, ← loadvPresent_iff]
  cases r <;> simp [confirms, Relay.towardClosed]

/-- R47: the result goes to the attempt that waits for it. -/
theorem captureComplete_attempt {o : Operation} (running : s.smp.capture = .running) (slots : 64 ≤ s.smp.capCount)
    (op : s.sw.op = some o) (step : o.step = .capture) :
    captureComplete s = judgeAttempt o s.smp.capMax s.smp.capSum (endCapture s) := by
  rw [captureComplete, if_pos ⟨running, slots⟩]
  simp only [show (endCapture s).sw = s.sw from rfl, op]
  exact if_pos step

/-- R47: the result goes to the check that waits for it. -/
theorem captureComplete_check (running : s.smp.capture = .running) (slots : 64 ≤ s.smp.capCount)
    (op : s.sw.op = none) (check : s.sw.check = .waiting) :
    captureComplete s = endColdStart (judgeCheck s.smp.capMax s.smp.capSum (endCapture s)) := by
  rw [captureComplete, if_pos ⟨running, slots⟩]
  simp only [show (endCapture s).sw = s.sw from rfl, op]
  exact if_pos check

/-- R136: an attempt that settles, confirmed or failed, on what its capture has shown. -/
theorem judgeAttempt_settles {o : Operation} {largest sum : Nat}
    (h : confirms s.win.cal s.sw.relay.towardClosed largest sum = true ∨ 3 ≤ o.attempt) :
    let failed := !confirms s.win.cal s.sw.relay.towardClosed largest sum
    judgeAttempt o largest sum s = settle s.sw.relay.towardClosed failed (failed && ilPresent s.win.cal sum)
      (failed && loadvPresent s.win.cal largest) o.unsync o.reason s := by
  unfold judgeAttempt
  dsimp only
  cases confirmed : confirms s.win.cal s.sw.relay.towardClosed largest sum with
  | true => simp
  | false =>
    have third : ¬ o.attempt < 3 := Nat.not_lt.mpr (h.resolve_left (by simp [confirmed]))
    simp [third]

/-- The detail of a settle event fits its byte. -/
theorem settleDetail_toNat {n : Nat} (h : n ≤ 7) (unsync failed : Bool) :
    (BitVec.ofNat 8 (settleDetail n unsync failed)).toNat =
      n + (if unsync then 64 else 0) + (if failed then 128 else 0) := by
  rw [BitVec.toNat_ofNat, Nat.mod_eq_of_lt] <;> cases unsync <;> cases failed <;> simp [settleDetail, bit] <;> omega

theorem Reason.num_le (r : Reason) : r.num ≤ 7 := by cases r <;> decide

/-- A finding of RELAY, or of nothing, outlasts the rest of the settle. -/
theorem settle_finding_taken (generation : s.sto.generationEnded = false) (isFailed : failed = true)
    (found : closed = true ∨ il = true) :
    FindingTaken s (settle closed failed il loadv unsync reason s) Latches.relay Findings.relay := by
  subst isFailed
  have asks : OnlyAsksFurther s (settleFound closed true il loadv s) := settleFound_asks generation
  have rest := (settle_reports (unsync := unsync) (reason := reason) asks.generation).tamper
  have isFinding : settleFound closed true il loadv s = finding .relay (s.modSw fun w => w.settled closed) := by
    rcases failureFinding_cases closed il loadv (s.modSw fun w => w.settled closed) with
      ⟨-, isFinding⟩ | ⟨neither, -⟩ | ⟨neither, -⟩
    · exact isFinding
    · simp_all
    · simp_all
  obtain ⟨latch, waits⟩ := finding_relay_taken (s := s.modSw fun w => w.settled closed) generation
  rw [← isFinding] at latch waits
  exact ⟨by rw [rest]; exact latch, by rw [rest]; exact waits⟩

/-- Settles O39, by `judgeAttempt_settles` and what a settle makes of the Switch Controller. -/
theorem settleFollowsCapture : Obligations.SettleFollowsCapture := by
  unfold Obligations.SettleFollowsCapture
  intro s o settled running slots op step closed live current confirmed smp
  let e := endCapture (clearLines s)
  let toward := s.sw.relay.towardClosed
  let failed := !confirms s.win.cal toward s.smp.capMax s.smp.capSum
  let il := failed && ilPresent s.win.cal s.smp.capSum
  let loadv := failed && loadvPresent s.win.cal s.smp.capMax
  have judged : captureComplete (clearLines s) = judgeAttempt o s.smp.capMax s.smp.capSum e :=
    captureComplete_attempt (s := clearLines s) running slots op step
  have isClosed : toward = true ↔ closed := Relay.towardClosed_iff _
  have isOpened : toward = false ↔ ¬ closed := Bool.not_eq_true _ ▸ not_congr isClosed
  have isConfirmed : confirms s.win.cal toward s.smp.capMax s.smp.capSum = true ↔ confirmed := confirms_iff _ _ _ _
  have isFailed : failed = true ↔ ¬ confirmed := by rw [← isConfirmed, Bool.not_eq_true']; exact Bool.not_eq_true _ ▸ Iff.rfl
  have isCurrent : ¬ confirmed → (il = true ↔ current) := fun denied =>
    Bool.and_eq_true_iff.trans ((and_iff_right (isFailed.mpr denied)).trans (ilPresent_iff _ _))
  have isLive : ¬ confirmed → (loadv = true ↔ live) := fun denied =>
    Bool.and_eq_true_iff.trans ((and_iff_right (isFailed.mpr denied)).trans (loadvPresent_iff _ _))
  refine ⟨fun denied early => ?again, fun settles => ?settle⟩
  case again =>
    refine runCommand_within (f := captureComplete) settled.toQuiet (judged.trans ?_) rfl rfl rfl
    exact (if_neg (isConfirmed.not.mpr denied)).trans (if_pos early)
  case settle =>
    let t := settle toward failed il loadv o.unsync o.reason e
    have run : captureComplete (clearLines s) = t :=
      judged.trans (judgeAttempt_settles (s := e) (settles.imp_left isConfirmed.mpr))
    have asks : OnlyAsksFurther e t := settle_asks settled.generation
    have frame : Frame [.path, .sto, .sw, .tam, .log, .free] e t := by simp [t]
    have next : exec .captureComplete s = .next t :=
      runCommand_asksFurther (f := captureComplete) settled run ⟨asks.generation, asks.path, asks.store⟩
        (congrArg Supply.holdDue (frame.sup (by decide))) (congrArg Supply.restartDue (frame.sup (by decide)))
    have rested : ∀ {held}, t.sw.Rests toward held → closed → t.sw.relay = .closed ∧ t.sw.op = none := fun rests isC =>
      ⟨by rw [rests.relay, if_pos (isClosed.mpr isC)], rests.op⟩
    refine ⟨t, next, ?frame, fun held => ?held, fun held => ⟨fun isC empty => ?rests, fun isC notEmpty => ?opens,
      fun isC notEmpty record run => ?reason, fun isO keeps => ?staysOpen, fun isO empty armed => ?closes⟩,
      fun isC => settle_clean (isClosed.mpr isC), fun opened => ?period, fun isConf => ?confirmed,
      fun denied found => settle_finding_taken (s := e) settled.generation (isFailed.mpr denied)
        (found.imp isClosed.mpr (isCurrent denied).mpr),
      fun denied isO notCurrent => ?bypass, ?owes, fun recovered ring room r number => ?event⟩
    case frame =>
      exact State.eq_of_blocks (frame.pins (by decide)) (frame.lines (by decide)) asks.path (frame.win (by decide))
        (frame.smp (by decide)) (frame.eng (by decide)) asks.store (frame.dec (by decide)) rfl
        (settle_tam_parts (s := e) settled.generation) rfl (frame.sup (by decide)) (frame.port (by decide)) rfl
        (frame.pending (by decide))
    case held =>
      have rests := settle_held (s := e) (closed := toward) (failed := failed) (il := il) (loadv := loadv)
        (unsync := o.unsync) (reason := o.reason) held
      exact ⟨rests.relay.trans (if_congr isClosed rfl rfl), rests.op⟩
    case rests =>
      obtain ⟨rests, -⟩ := settle_closed (s := e) (isClosed.mpr isC) held
      exact rested (rests empty) isC
    case opens =>
      obtain ⟨-, opens⟩ := settle_closed (s := e) (isClosed.mpr isC) held
      obtain ⟨relay, r, op, -⟩ := opens notEmpty
      exact ⟨relay, _, op, rfl⟩
    case reason =>
      obtain ⟨-, opens⟩ := settle_closed (s := e) (isClosed.mpr isC) held
      obtain ⟨-, r, op, early⟩ := opens notEmpty
      exact op.trans (congrArg (fun q => some (startedOp q)) (early run))
    case staysOpen =>
      obtain ⟨rests, -⟩ := settle_opened (s := e) (isOpened.mpr isO) held
      have rests := rests keeps
      exact ⟨by rw [rests.relay, isOpened.mpr isO]; rfl, rests.op⟩
    case closes =>
      obtain ⟨-, closes⟩ := settle_opened (s := e) (isOpened.mpr isO) held
      exact closes empty armed
    case period =>
      obtain ⟨begun, ilRun, found⟩ := settle_openPeriod (s := e) opened
      refine ⟨begun, ilRun, ?_⟩
      rw [found]
      exact Bool.and_eq_true_iff.trans ((and_congr_left' isFailed).trans (and_congr_right isCurrent))
    case confirmed =>
      have found : settleFound toward failed il loadv e = e.modSw fun w => w.settled toward :=
        if_neg (isFailed.not.mpr (not_not.mpr isConf))
      have rest := (settle_reports (s := e) (unsync := o.unsync) (reason := o.reason) (closed := toward) (failed := failed)
        (il := il) (loadv := loadv) (settleFound_asks (s := e) settled.generation).generation).tamper
      refine ⟨?_, ?_⟩
      · rw [show t.sw.reasons = _ from settle_reasons, found]
        rfl
      · rw [show t.tam = _ from rest, found]
        rfl
    case bypass =>
      have isLiveNow : live := by
        by_contra dead
        exact denied ((if_neg isO).mpr ⟨dead, notCurrent⟩)
      exact settle_bypass (s := e) (isOpened.mpr isO) (isFailed.mpr denied)
        (Bool.eq_false_iff.mpr ((isCurrent denied).not.mpr notCurrent)) ((isLive denied).mpr isLiveNow)
    case owes => exact settle_owes (settleFound_asks (s := e) settled.generation).generation
    case event =>
      have logs : e.LogsEvents := ⟨recovered, ring, Nat.lt_succ_of_lt room⟩
      have numbered : if toward then (if toward then 0 else r.num) = 0
          else ∃ q, o.reason = some q ∧ (if toward then 0 else r.num) = q.num := by
        by_cases isC : closed
        · simp [isClosed.mpr isC]
        · simp only [isOpened.mpr isC]
          exact ⟨r, number.resolve_left isC, rfl⟩
      obtain ⟨rec, queue, kind, detail⟩ := settleEvent_last (failed := failed) (unsync := o.unsync) (reason := o.reason)
        (settleFound_logs (closed := toward) (failed := failed) (il := il) (loadv := loadv) logs room)
      have small : (if toward then 0 else r.num) ≤ 7 := by
        split
        · exact Nat.zero_le _
        · exact r.num_le
      rw [show t.log = _ from settle_log, queue, List.getLast?_concat, Option.map_some, kind, detail _ numbered, settleDetail_toNat small]
      have mark : (if failed then 128 else 0) = if confirmed then 0 else 128 := by
        rw [if_congr isFailed rfl rfl]
        exact ite_not _ _ _
      rw [if_congr isClosed rfl rfl, if_congr isClosed rfl rfl, mark]

end
end Sys2Proof.Machine

namespace Sys2Proof.Machine

open Sys2Proof

/-! ## The relay check (R145, R179) -/

/-- What an evaluation, an operation or a settle changes beside BYPASS, the open period and the overload run: the relay alone. -/
def Switch.Operated (w v : Switch) : Prop := v = { w with
  relay := v.relay, op := v.op, overRun := v.overRun, clean := v.clean, openPeriod := v.openPeriod, ilRun := v.ilRun
  relayFound := v.relayFound, bypass := v.bypass }

/-- R145: the relay where the check confirms its direction: an abandoned operation settles, and an OPEN relay begins its open period
anew. -/
def Switch.directed (w : Switch) : Switch :=
  match w.relay with
  | .closing => (w.settled true).period true false
  | .opening => (w.settled false).period false false
  | .closed => w
  | .opened => w.period false false

section
variable {s t u : State} {w v x : Switch}

theorem Switch.Operated.trans (h : w.Operated v) (g : v.Operated x) : w.Operated x := by
  unfold Operated at *
  rw [g, h]

theorem Switch.operated_started (w : Switch) (c : Bool) (r : Option Reason) : w.Operated (w.started c r) := rfl

theorem Switch.operated_evaluated (w : Switch) : w.Operated w.evaluated := by
  rcases w.evaluated_cases with same | ⟨c, r, starts, -⟩
  · rw [same]
    rfl
  · rw [starts]
    exact operated_started w c r

theorem Switch.operated_directed (w : Switch) : w.Operated w.directed := by
  unfold directed
  split <;> rfl

theorem Switch.directed_rests (op : w.op = none) : w.directed.Rests w.relay.towardClosed w.held := by
  unfold directed
  cases relay : w.relay with
  | closing => exact ⟨rfl, rfl, rfl⟩
  | opening => exact ⟨rfl, rfl, rfl⟩
  | closed => exact ⟨relay, op, rfl⟩
  | opened => exact ⟨relay, op, rfl⟩

/-- Log entry 39: a relay found OPEN is in an open period begun anew. -/
theorem Switch.directed_openPeriod (isOpened : w.relay.towardClosed = false) :
    w.directed.openPeriod = true ∧ w.directed.ilRun = 0 ∧ w.directed.relayFound = false := by
  unfold directed
  cases relay : w.relay with
  | closing => simp [relay, Relay.towardClosed] at isOpened
  | closed => simp [relay, Relay.towardClosed] at isOpened
  | opening => exact ⟨rfl, rfl, rfl⟩
  | opened => exact ⟨rfl, rfl, rfl⟩

/-! ### The check's judgement -/

/-- R145: the check ends, and with it the holdback, unless the warning has been raised (log entry 15). -/
def Switch.checked (w : Switch) (warned : Prop) [Decidable warned] : Switch := { w with check := .noCheck, held := warned }

theorem checkConfirmed_sw (s : State) : (checkConfirmed s.sw.relay.towardClosed s).sw = s.sw.directed.evaluated := by
  unfold checkConfirmed Switch.directed
  cases relay : s.sw.relay with
  | closing =>
    dsimp only
    rw [settle_sw]
    rfl
  | opening =>
    dsimp only
    rw [settle_sw]
    rfl
  | closed =>
    dsimp only
    rw [settleEvaluation_sw]
  | opened =>
    dsimp only
    rw [settleEvaluation_sw]
    rfl

theorem OnlyReports.trans (h : OnlyReports s t) (g : OnlyReports t u) : OnlyReports s u where
  toOnlyAsks := h.toOnlyAsks.trans g.toOnlyAsks
  tamper := by rw [g.tamper, h.tamper]
  bypass := g.bypass ∘ h.bypass

theorem checkConfirmed_reports (closed : Bool) (generation : s.sto.generationEnded = false) :
    OnlyReports s (checkConfirmed closed s) := by
  have settles : OnlyReports s (settle closed false false false (Config.unrecordedMark s.free) none { s with free := s.free + 1 }) :=
    OnlyReports.trans (t := settleFound closed false false false { s with free := s.free + 1 })
      ⟨⟨generation, rfl, rfl⟩, rfl, id⟩ (settle_reports generation)
  unfold checkConfirmed
  split
  · exact settles
  · exact settles
  · exact (OnlyReports.refl generation).settleEvaluation
  · exact ((OnlyReports.refl generation).modSw _).settleEvaluation

/-- R145: a check of a relay at rest tells nothing. -/
theorem checkConfirmed_silent (closed : Bool) (rests : s.sw.relay = .closed ∨ s.sw.relay = .opened) :
    (checkConfirmed closed s).log = s.log ∧ (checkConfirmed closed s).sto = s.sto := by
  have evaluation : ∀ u, (settleEvaluation u).log = u.log ∧ (settleEvaluation u).sto = u.sto := fun u =>
    ⟨Frame.log (l := [.sw, .tam]) (by simp) (by decide), Frame.sto (l := [.sw, .tam]) (by simp) (by decide)⟩
  unfold checkConfirmed
  rcases rests with relay | relay <;> rw [relay]
  · exact evaluation s
  · exact evaluation (beginOpenPeriod false s)

/-- R145: a check after an abandoned operation settles it. -/
theorem checkConfirmed_settles (closed : Bool) (generation : s.sto.generationEnded = false)
    (moves : s.sw.relay = .closing ∨ s.sw.relay = .opening) :
    (checkConfirmed closed s).Owes 6 ∧ (s.LogsEvents →
      ∃ e, (checkConfirmed closed s).log.queue = s.log.queue ++ [e] ∧
        e.kind = if closed then .supplyClosed else .supplyOpened) := by
  have settles : checkConfirmed closed s =
      settle closed false false false (Config.unrecordedMark s.free) none { s with free := s.free + 1 } := by
    unfold checkConfirmed
    rcases moves with relay | relay <;> rw [relay]
  rw [settles]
  refine ⟨settle_owes (s := { s with free := s.free + 1 }) (failed := false) generation, fun logs => ?_⟩
  rw [settle_log]
  obtain ⟨e, queue, kind, -⟩ := settleEvent_last (s := settleFound closed false false false { s with free := s.free + 1 })
    (closed := closed) (unsync := Config.unrecordedMark s.free) (failed := false) (reason := none) (logs.of_log rfl)
  exact ⟨e, queue, kind⟩

/-- R145: a direction that is not confirmed starts a corrective operation, where one may start. -/
theorem judgeCheck_denied {largest sum : Nat} (denied : confirms s.win.cal s.sw.relay.towardClosed largest sum = false) :
    judgeCheck largest sum s =
      let checked := s.modSw fun w => w.checked (s.sup.phase = .warned)
      if checked.sw.mayStart then startOperation s.sw.relay.towardClosed none checked else checked :=
  if_neg (Bool.eq_false_iff.mp denied)

/-- R145: a corrective operation starts without a word. -/
theorem judgeCheck_denied_silent {largest sum : Nat}
    (denied : confirms s.win.cal s.sw.relay.towardClosed largest sum = false) :
    (judgeCheck largest sum s).log = s.log ∧ (judgeCheck largest sum s).sto = s.sto := by
  rw [judgeCheck_denied denied]
  dsimp only
  split
  · exact ⟨Frame.log (l := [.sw, .tam]) (by simp) (by decide), Frame.sto (l := [.sw, .tam]) (by simp) (by decide)⟩
  · exact ⟨rfl, rfl⟩

theorem judgeCheck_confirmed {largest sum : Nat} (confirmed : confirms s.win.cal s.sw.relay.towardClosed largest sum = true) :
    judgeCheck largest sum s =
      checkConfirmed s.sw.relay.towardClosed (s.modSw fun w => w.checked (s.sup.phase = .warned)) :=
  if_pos confirmed

/-- The Switch Controller after the check's judgement. -/
theorem judgeCheck_sw (largest sum : Nat) (s : State) : (judgeCheck largest sum s).sw =
    let w := s.sw.checked (s.sup.phase = .warned)
    if confirms s.win.cal s.sw.relay.towardClosed largest sum then w.directed.evaluated
    else if w.mayStart then w.started s.sw.relay.towardClosed none else w := by
  dsimp only
  split
  case isTrue confirmed =>
    rw [judgeCheck_confirmed confirmed]
    exact checkConfirmed_sw (s.modSw _)
  case isFalse denied =>
    rw [judgeCheck_denied (Bool.eq_false_iff.mpr denied)]
    dsimp only
    rw [apply_ite State.sw, startOperation_sw]
    rfl

theorem judgeCheck_operated (largest sum : Nat) (s : State) :
    (s.sw.checked (s.sup.phase = .warned)).Operated (judgeCheck largest sum s).sw := by
  rw [judgeCheck_sw]
  dsimp only
  split
  · exact (Switch.operated_directed _).trans (Switch.operated_evaluated _)
  · split <;> rfl

theorem judgeCheck_reports (largest sum : Nat) (generation : s.sto.generationEnded = false) :
    OnlyReports s (judgeCheck largest sum s) := by
  have checked : OnlyReports s (s.modSw fun w => w.checked (s.sup.phase = .warned)) := (OnlyReports.refl generation).modSw _
  cases confirmed : confirms s.win.cal s.sw.relay.towardClosed largest sum with
  | true =>
    rw [judgeCheck_confirmed confirmed]
    exact checked.trans (checkConfirmed_reports _ checked.generation)
  | false =>
    rw [judgeCheck_denied confirmed]
    dsimp only
    split
    · exact checked.startOperation _ _
    · exact checked

/-- R179 steps 8 and 9: the Switch Controller at the end of a cold start. -/
def Switch.buttonStarted (w : Switch) : Switch := { w with buttonOn := true, button := .unsettled, buttonTime := 0 }

theorem endColdStart_eq (s : State) : endColdStart s = { s with
    sw := if s.sup.step = .coldRelayCheck then s.sw.buttonStarted else s.sw
    path := { s.path with causeStartUp := if s.sup.step = .coldRelayCheck then false else s.path.causeStartUp }
    sup := if s.sup.step = .coldRelayCheck then { s.sup with phase := .running, step := .noStep } else s.sup } := by
  unfold endColdStart
  split <;> rfl

/-- Settles O40: the check is judged by `judgeCheck_confirmed` and `judgeCheck_denied`, and ends a cold start. -/
theorem relayCheckIsJudged : Obligations.RelayCheckIsJudged := by
  unfold Obligations.RelayCheckIsJudged
  intro s settled running slots op check closed live current confirmed
  let e := endCapture (clearLines s)
  let toward := s.sw.relay.towardClosed
  let w := s.sw.checked (s.sup.phase = .warned)
  let j := judgeCheck s.smp.capMax s.smp.capSum e
  let t := endColdStart j
  have isClosed : toward = true ↔ closed := Relay.towardClosed_iff _
  have isOpened : toward = false ↔ ¬ closed := Bool.not_eq_true _ ▸ not_congr isClosed
  have isConfirmed : confirms s.win.cal toward s.smp.capMax s.smp.capSum = true ↔ confirmed := confirms_iff _ _ _ _
  have isDenied : confirms s.win.cal toward s.smp.capMax s.smp.capSum = false ↔ ¬ confirmed :=
    Bool.not_eq_true _ ▸ not_congr isConfirmed
  have run : captureComplete (clearLines s) = t := captureComplete_check (s := clearLines s) running slots op check
  have reports : OnlyReports e j := judgeCheck_reports _ _ settled.generation
  have frame : Frame [.path, .sto, .sw, .tam, .log, .free] e j := by simp [j]
  have ended : t = _ := endColdStart_eq j
  have sup : j.sup = s.sup := frame.sup (by decide)
  rw [sup] at ended
  have operated : w.Operated j.sw := judgeCheck_operated s.smp.capMax s.smp.capSum e
  have kept : t.sw = { j.sw with buttonOn := t.sw.buttonOn, button := t.sw.button, buttonTime := t.sw.buttonTime } := by
    rw [ended]
    dsimp only
    split <;> rfl
  have relay : t.sw.relay = j.sw.relay := by rw [kept]
  have operation : t.sw.op = j.sw.op := by rw [kept]
  have cut : t.path.cutAsked = j.path.cutAsked := by rw [ended]; rfl
  have calm : j.Calm := State.Calm.of_onlyAsks (s := e) settled.calm reports.toOnlyAsks
  have log : t.log = j.log := by rw [ended]
  have sto : t.sto = j.sto := by rw [ended]
  have path : t.path = { s.path with causeStartUp := t.path.causeStartUp, jobs := t.path.jobs } := by
    rw [ended, reports.path]
    rfl
  have supply : t.sup = { s.sup with phase := t.sup.phase, step := t.sup.step } := by
    rw [ended]
    dsimp only
    split <;> rfl
  have next : exec .captureComplete s = .next t :=
    runCommand_eq settled.powered run (by rw [sto]; exact calm.ended) (cut.trans calm.cutAsked)
      (by rw [supply]; exact settled.holdDue) (by rw [supply]; exact settled.restartDue)
  have rests : w.directed.Rests toward w.held := Switch.directed_rests op
  refine ⟨t, next, ?frame, ?check, ?held, ?reasons, ?armed,
    fun cold => ?cold, fun notCold => ?warm, fun denied => ?denied, fun isConf => ?confirmed⟩
  case frame =>
    refine State.eq_of_blocks ?_ ?_ path ?_ ?_ ?_ ?_ ?_ rfl ?_ rfl supply ?_ rfl ?_ <;> rw [ended]
    · exact frame.pins (by decide)
    · exact frame.lines (by decide)
    · exact frame.win (by decide)
    · exact frame.smp (by decide)
    · exact frame.eng (by decide)
    · exact reports.store
    · exact frame.dec (by decide)
    · exact reports.tamper
    · exact frame.port (by decide)
    · exact frame.pending (by decide)
  case check =>
    rw [kept, operated]
    rfl
  case held =>
    rw [kept, operated]
    exact decide_eq_true_iff
  case reasons =>
    rw [kept, operated]
    rfl
  case armed =>
    rw [kept, operated]
    rfl
  case cold =>
    rw [ended]
    dsimp only
    rw [if_pos cold, if_pos cold, if_pos cold]
    exact ⟨rfl, rfl, rfl, rfl, rfl, rfl⟩
  case warm =>
    rw [ended]
    dsimp only
    rw [if_neg notCold, if_neg notCold, if_neg notCold, operated, reports.path]
    exact ⟨rfl, rfl, rfl, rfl⟩
  case denied =>
    have sw : j.sw = if w.mayStart then w.started toward none else w :=
      (judgeCheck_sw _ _ e).trans (if_neg (isConfirmed.not.mpr denied))
    have silent : j.log = s.log ∧ j.sto = s.sto := judgeCheck_denied_silent (s := e) (isDenied.mpr denied)
    rw [log, sto, relay, operation, sw]
    refine ⟨silent.1, silent.2, fun warned => ?_, fun free => ?_⟩
    · rw [if_neg (by simp [w, Switch.mayStart, Switch.checked, warned])]
      exact ⟨rfl, op⟩
    · rw [if_pos (by simp [w, Switch.mayStart, Switch.checked, free, op])]
      exact ⟨if_congr isClosed rfl rfl, rfl⟩
  case confirmed =>
    let checked := e.modSw fun x => x.checked (s.sup.phase = .warned)
    have judged : j = checkConfirmed toward checked := judgeCheck_confirmed (s := e) (isConfirmed.mpr isConf)
    have sw : j.sw = w.directed.evaluated := (judgeCheck_sw _ _ e).trans (if_pos (isConfirmed.mpr isConf))
    have reasons : w.directed.reasons = s.sw.reasons := by rw [Switch.operated_directed w]; rfl
    have armed : w.directed.armed = s.sw.armed := by rw [Switch.operated_directed w]; rfl
    have towards : closed → w.directed.relay = .closed := fun isC => rests.relay.trans (if_pos (isClosed.mpr isC))
    have away : ¬ closed → w.directed.relay = .opened := fun isO => rests.relay.trans (if_neg (isClosed.not.mpr isO))
    have starts : s.sup.phase ≠ .warned → w.directed.mayStart = true := fun free =>
      Switch.Rests.mayStart (closed := toward) (decide_eq_false free ▸ rests)
    refine ⟨fun atRest => ?silent, fun moves => ?settles, fun warned => ?warned, fun free =>
      ⟨fun isC empty => ?stays, fun isC notEmpty => ?opens, fun isO keeps => ?staysOpen, fun isO empty notArmed => ?closes⟩⟩
    case silent =>
      rw [log, sto, judged]
      exact checkConfirmed_silent (s := checked) toward atRest
    case settles =>
      obtain ⟨owes, event⟩ := checkConfirmed_settles (s := checked) toward settled.generation moves
      rw [← judged] at owes event
      refine ⟨owes.of_sto sto, fun logs => ?_⟩
      obtain ⟨rec, queue, kind⟩ := event (logs.of_log rfl)
      rw [log, queue, List.dropLast_concat, List.getLast?_concat, Option.map_some, kind, if_congr isClosed rfl rfl]
      exact ⟨rfl, rfl⟩
    case warned =>
      have held : w.directed.Rests toward true := decide_eq_true warned ▸ rests
      rw [relay, operation, sw, Switch.evaluated_of_not_mayStart held.not_mayStart]
      exact ⟨rests.relay.trans (if_congr isClosed rfl rfl), rests.op⟩
    case stays =>
      rw [relay, operation, sw, Switch.evaluated_closed_rests (towards isC) (by rw [reasons]; exact empty)]
      exact ⟨towards isC, rests.op⟩
    case opens =>
      rw [relay, operation, sw,
        Switch.evaluated_closed_opens (starts free) (towards isC) (by rw [reasons]; exact notEmpty), reasons]
      exact ⟨rfl, rfl⟩
    case staysOpen =>
      rw [kept, sw, Switch.evaluated_opened_rests (away isO) (by rw [reasons, armed]; exact keeps)]
      exact ⟨away isO, rests.op, Switch.directed_openPeriod (isOpened.mpr isO)⟩
    case closes =>
      rw [relay, operation, sw, Switch.evaluated_opened_closes (starts free) (away isO) (by rw [reasons]; exact empty)
        (by rw [armed]; exact notArmed)]
      exact ⟨rfl, rfl⟩

end
end Sys2Proof.Machine

namespace Sys2Proof.Machine

open Sys2Proof

section
variable {s t u : State}

/-! ## What a block gives (R59 to R63) -/

/-- R62: the two energies differ by more than the ratio. -/
theorem blockFigures_imbalance (c : Calibration) (sl sn : Int) (limit : Nat) (magnet : Bool) :
    let el := sl.natAbs * c.gl
    let en := sn.natAbs * c.gn
    (blockFigures c sl sn limit magnet).imbalance = true ↔
      max el en * c.ratio < (if el ≤ en then en - el else el - en) * 256 := by
  intro el en
  have distance : ((el : Int) - en).natAbs = if el ≤ en then en - el else el - en := by split <;> omega
  rw [← distance]
  exact decide_eq_true_iff

theorem blockFigures_negative (c : Calibration) (sl sn : Int) (limit : Nat) (magnet : Bool) :
    (blockFigures c sl sn limit magnet).negative = true ↔ if sn.natAbs * c.gn ≤ sl.natAbs * c.gl then sl < 0 else sn < 0 := by
  refine decide_eq_true_iff.trans ?_
  split <;> rfl

theorem blockFigures_above (c : Calibration) (sl sn : Int) (limit : Nat) (magnet : Bool) :
    (blockFigures c sl sn limit magnet).above = true ↔
      c.pCreep * 2 ^ 48 ≤ max (sl.natAbs * c.gl) (sn.natAbs * c.gn) * 180 := decide_eq_true_iff

/-- R63: the overload result of the energy after creep. -/
theorem blockFigures_over (c : Calibration) (sl sn : Int) (limit : Nat) (magnet : Bool) :
    let energy := max (sl.natAbs * c.gl) (sn.natAbs * c.gn)
    (blockFigures c sl sn limit magnet).overload = .over ↔
      c.pCreep * 2 ^ 48 ≤ energy * 180 ∧ 0 < limit ∧ limit * 2 ^ 48 < energy * 180 := by
  intro energy
  have compared : ∀ e, overloadOf e limit = .over ↔ 0 < limit ∧ limit * 2 ^ 48 < e * 180 := fun e => by
    unfold overloadOf mWh
    split
    · simp [*]
    · split <;> simp [*] <;> omega
  refine (compared (if c.pCreep * 2 ^ 48 ≤ energy * 180 then energy else 0)).trans ?_
  split
  case isTrue above => exact (and_iff_right above).symm
  case isFalse creeps => exact ⟨fun ⟨_, isOver⟩ => absurd isOver (by simp), fun ⟨above, _⟩ => absurd above creeps⟩

/-- R61: the billed energy after creep and the magnet floor. -/
theorem blockFigures_billed (c : Calibration) (sl sn : Int) (limit : Nat) (magnet : Bool) :
    let energy := max (sl.natAbs * c.gl) (sn.natAbs * c.gn)
    let measured := if c.pCreep * 2 ^ 48 ≤ energy * 180 then energy else 0
    (blockFigures c sl sn limit magnet).billed =
      if magnet then max measured (c.pPen * 2 ^ 48 / 180) else measured := rfl

/-- R66: a kWh boundary, and none after saturation. -/
theorem crossesBoundary_iff (cumulative n : Nat) : crossesBoundary cumulative n = true ↔
    1000000 - cumulative % 1000000 ≤ n ∧ cumulative + (1000000 - cumulative % 1000000) < 2 ^ 48 := by
  rw [crossesBoundary, toBoundary, max48, Bool.and_eq_true, decide_eq_true_iff, decide_eq_true_iff]
  omega

/-! ### The Engine's own stages (R58) -/

/-- What the stages of a block leave alone. -/
theorem blockStages_kept (e : Engine) (f : BlockFigures) :
    (e.blockStages f).account = e.account ∧ (e.blockStages f).limit = e.limit ∧
    (e.blockStages f).pendingLimit = e.pendingLimit ∧ (e.blockStages f).repCredit = e.repCredit ∧
    (e.blockStages f).repLow = e.repLow := by
  unfold Engine.blockStages Engine.chargeBlock
  dsimp only
  repeat' split
  all_goals exact ⟨rfl, rfl, rfl, rfl, rfl⟩

/-- R70: the SPEND request is due once spend-since-commit has reached 1,000. -/
theorem blockStages_spendDue (e : Engine) (f : BlockFigures) : (e.blockStages f).spendDue = true ↔
    e.spendDue = true ∨ (e.spend < 1000 ∧ 1000 ≤ (e.blockStages f).spend) := by
  have charged : ∀ x : Engine, (x.chargeBlock f.billed).spendDue =
      (x.spendDue || (x.spend < 1000 && 1000 ≤ (x.chargeBlock f.billed).spend)) := fun x => by
    unfold Engine.chargeBlock
    dsimp only
    split <;> rfl
  unfold Engine.blockStages
  dsimp only
  split
  · rw [charged]
    simp
  · simp only [iff_self_or]
    omega

/-- R75: the credit condition. -/
theorem creditCondition_eq (e : Engine) : e.creditCondition =
    decide (e.account = true ∧ e.credit ≤ if e.ec = .available then 0 else -(e.allow : Int)) := by
  unfold Engine.creditCondition
  cases e.account <;> split <;> simp

theorem lowCredit_eq (e : Engine) (wLow : Nat) : e.lowCredit wLow = decide (e.account = true ∧ e.credit < wLow) := by
  unfold Engine.lowCredit
  cases e.account <;> simp

/-! ## The conditions of the credit balance (R75, R143) -/

/-- R75, R125: a changed credit condition is told to the Switch Controller. -/
def Switch.toldCredit (w : Switch) (changed condition : Bool) : Switch :=
  if changed then
    if w.awaitRecord then { w with heldReports := w.heldReports ++ [.credit condition] }
    else { w with creditCond := condition }.followed .credit condition
  else w

theorem reportCredit_eng (s : State) : (reportCredit s).eng = { s.eng with repCredit := s.eng.creditCondition } := by
  unfold reportCredit
  dsimp only
  split
  case isTrue same => rw [same]
  case isFalse =>
    exact Frame.eng (s := s.modEng fun e => { e with repCredit := s.eng.creditCondition })
      (l := [.path, .sto, .sw, .tam]) (by simp) (by decide)

theorem reportCredit_sw (s : State) : (reportCredit s).sw =
    s.sw.toldCredit (s.eng.creditCondition != s.eng.repCredit) s.eng.creditCondition := by
  unfold reportCredit Switch.toldCredit
  dsimp only
  split
  case isTrue same => simp [same]
  case isFalse other =>
    rw [report_credit_sw, if_pos (show (s.eng.creditCondition != s.eng.repCredit) = true from bne_iff_ne.mpr other)]
    rfl

theorem OnlyReports.reportCredit (h : OnlyReports s t) : OnlyReports s (reportCredit t) := by
  unfold Machine.reportCredit
  dsimp only
  split
  · exact h
  · exact (h.of_frame (u := t.modEng _) (l := [.eng]) (by simp) (by decide) (by decide) (by decide)).report _

theorem reportLow_eq (s : State) : reportLow s = { s with
    eng := { s.eng with lowFlag := s.eng.lowCredit s.win.cal.wLow, repLow := s.eng.lowCredit s.win.cal.wLow }
    sw := { s.sw with lowcr := if s.eng.lowCredit s.win.cal.wLow = s.eng.repLow then s.sw.lowcr
      else s.eng.lowCredit s.win.cal.wLow && s.sup.phase != .held } } := by
  by_cases same : s.eng.lowCredit s.win.cal.wLow = s.eng.repLow
  · refine (if_pos same).trans ?_
    rw [if_pos same, same]
    rfl
  · refine (if_neg same).trans ?_
    rw [if_neg same]
    rfl

end
end Sys2Proof.Machine

namespace Sys2Proof.Machine

open Sys2Proof

/-! ## What the Switch Controller takes from a block (R139, R141, R147) -/

/-- R141: a new limit comes into force behind the trip that is due, and the run starts afresh. -/
def Switch.limited (w : Switch) (pending : Bool) : Switch := if pending then { w.tripped with overRun := 0 } else w

/-- R141: the trip has been made. -/
structure Switch.HasTripped (w v : Switch) : Prop where
  limit : v.reasons.limit = true
  retry : v.retry = min (w.retry + 1) 4
  overRun : v.overRun = 0

/-- R139: the open period goes on with its run, or an operation has ended it. -/
def Switch.PeriodKept (w v : Switch) : Prop := v.openPeriod = true → w.openPeriod = true ∧ v.ilRun = w.ilRun

section
variable {w v x : Switch} {changed b pending : Bool}

/-! ### The open period -/

theorem Switch.PeriodKept.refl (w : Switch) : w.PeriodKept w := fun period => ⟨period, rfl⟩

theorem Switch.PeriodKept.trans (h : w.PeriodKept v) (g : v.PeriodKept x) : w.PeriodKept x := fun period => by
  obtain ⟨before, run⟩ := g period
  obtain ⟨first, same⟩ := h before
  exact ⟨first, run.trans same⟩

theorem Switch.periodKept_entered (w : Switch) (r : Reason) : w.PeriodKept (w.entered r) := by
  unfold entered
  split
  · exact nofun
  · exact .refl w

theorem Switch.periodKept_tripped (w : Switch) : w.PeriodKept w.tripped := by
  unfold tripped
  split
  · dsimp only
    split
    · exact .refl w
    · exact periodKept_entered _ _
  · exact .refl w

theorem Switch.periodKept_left {r : Reason} (h : r.recloses = false) (w : Switch) : w.PeriodKept (w.left r) := fun period =>
  have still := left_still w h
  ⟨still.openPeriod ▸ period, still.ilRun⟩

theorem Switch.periodKept_followed {r : Reason} (h : r.recloses = false) (w : Switch) (b : Bool) :
    w.PeriodKept (w.followed r b) := by
  unfold followed
  split
  · exact .refl w
  · split
    · exact (periodKept_tripped w).trans (periodKept_entered _ _)
    · exact periodKept_left h w

theorem Switch.periodKept_toldCredit (w : Switch) (changed b : Bool) : w.PeriodKept (w.toldCredit changed b) := by
  unfold toldCredit
  split
  · split
    · exact .refl w
    · exact periodKept_followed (w := { w with creditCond := b }) rfl b
  · exact .refl w

theorem Switch.periodKept_limited (w : Switch) (pending : Bool) : w.PeriodKept (w.limited pending) := by
  unfold limited
  split
  · exact periodKept_tripped w
  · exact .refl w

/-! ### The overload run -/

/-- R141: a trip that is due puts LIMIT into the set, raises the retry stage and ends the run. -/
theorem Switch.hasTripped_tripped (due : 250 ≤ w.overRun) : w.HasTripped w.tripped := by
  have limit : w.tripped.reasons.limit = true := by simp [due]
  cases present : w.reasons.limit with
  | true =>
    rw [tripped_of_limit due present] at limit ⊢
    exact ⟨limit, rfl, rfl⟩
  | false =>
    rw [tripped_of_no_limit due present] at limit ⊢
    refine ⟨limit, ?_, ?_⟩ <;> unfold entered <;> split <;> rfl

theorem Switch.HasTripped.entered (h : w.HasTripped v) (r : Reason) : w.HasTripped (v.entered r) := by
  obtain ⟨limit, retry, overRun⟩ := h
  refine ⟨?_, ?_, ?_⟩
  · rw [entered_reasons]
    cases r with
    | limit => rfl
    | credit | tamper | thermal | store | unset => exact limit
  · rw [← retry]
    unfold Switch.entered
    split <;> rfl
  · rw [← overRun]
    unfold Switch.entered
    split
    · exact overRun.symm
    · rfl

/-- No second trip follows the first. -/
theorem Switch.HasTripped.limited (h : w.HasTripped v) (pending : Bool) : w.HasTripped (v.limited pending) := by
  unfold Switch.limited
  split
  · have none : v.tripped = v := if_neg (by simp [h.overRun])
    rw [none]
    exact ⟨h.limit, h.retry, rfl⟩
  · exact h

theorem Switch.left_credit_run (w : Switch) : (w.left .credit).overRun = w.overRun ∧ (w.left .credit).retry = w.retry := by
  unfold left
  dsimp only
  split
  · rw [lastLeft_eq _ rfl]
    exact ⟨rfl, rfl⟩
  · exact ⟨rfl, rfl⟩

/-- R147, log entry 8: the credit condition that enters the set comes behind the trip. -/
theorem Switch.toldCredit_enters (record : w.awaitRecord = false) (absent : w.reasons.credit = false) :
    w.toldCredit true true = { w with creditCond := true }.tripped.entered .credit :=
  (if_pos rfl).trans <| (if_neg (Bool.eq_false_iff.mp record)).trans <|
    (if_neg (show ¬ w.reasons.credit = true by simp [absent])).trans (if_pos rfl)

/-- R127, R141, R147: CREDIT opens a relay that is CLOSED and free, unless the trip has opened it. -/
theorem Switch.toldCredit_opens (record : w.awaitRecord = false) (absent : w.reasons.credit = false) (opens : w.opens = true) :
    let v := w.toldCredit true true
    v.relay = .opening ∧ v.armed = false ∧ v.overRun = 0 ∧
      v.op = some (startedOp (some (if 250 ≤ w.overRun ∧ w.reasons.limit = false then .limit else .credit))) := by
  rw [toldCredit_enters record absent]
  exact tripped_entered_opens (w := { w with creditCond := true }) opens .credit

/-- What is told of the credit trips first where CREDIT enters, and leaves the run otherwise. -/
theorem Switch.toldCredit_cases (w : Switch) (changed b : Bool) :
    (changed = true ∧ b = true ∧ w.awaitRecord = false ∧ w.reasons.credit = false) ∨
    ((w.toldCredit changed b).overRun = w.overRun ∧ (w.toldCredit changed b).retry = w.retry) := by
  unfold toldCredit
  split
  case isTrue isChanged =>
    split
    case isTrue => exact .inr ⟨rfl, rfl⟩
    case isFalse record =>
      unfold followed
      split
      case isTrue => exact .inr ⟨rfl, rfl⟩
      case isFalse other =>
        cases b with
        | true => exact .inl ⟨isChanged, rfl, Bool.eq_false_iff.mpr record, Bool.eq_false_iff.mpr other⟩
        | false => exact .inr (left_credit_run { w with creditCond := false })
  case isFalse => exact .inr ⟨rfl, rfl⟩

/-- R141, R147: a run that has reached 250 trips before CREDIT enters, or before a new limit comes into force. -/
theorem Switch.block_trips (due : 250 ≤ w.overRun)
    (clears : (w.awaitRecord = false ∧ w.reasons.credit = false ∧ changed = true ∧ b = true) ∨ pending = true) (low : Bool) :
    w.HasTripped (({ w.toldCredit changed b with lowcr := low } : Switch).limited pending) := by
  have enters : w.awaitRecord = false → w.reasons.credit = false → w.HasTripped (w.toldCredit true true) := fun record absent => by
    have tripped := hasTripped_tripped (w := { w with creditCond := true }) due
    have first : w.HasTripped _ := ⟨tripped.limit, tripped.retry, tripped.overRun⟩
    rw [toldCredit_enters record absent]
    exact first.entered _
  have told : ∀ {v : Switch}, w.HasTripped v → w.HasTripped (({ v with lowcr := low } : Switch).limited pending) := fun {v} h =>
    HasTripped.limited (v := { v with lowcr := low }) ⟨h.limit, h.retry, h.overRun⟩ pending
  rcases clears with ⟨record, absent, rfl, rfl⟩ | rfl
  · exact told (enters record absent)
  · rcases w.toldCredit_cases changed b with ⟨rfl, rfl, record, absent⟩ | ⟨run, retry⟩
    · exact told (enters record absent)
    · have tripped := hasTripped_tripped (w := { w.toldCredit changed b with lowcr := low }) (by exact run ▸ due)
      exact ⟨tripped.limit, tripped.retry.trans (by rw [← retry]), rfl⟩

/-- R127: a run that does not trip outlasts the report to a relay that stays CLOSED. -/
theorem Switch.toldCredit_overRun (early : w.overRun < 250 ∨ changed = false)
    (relay : (w.toldCredit changed b).relay = .closed) : (w.toldCredit changed b).overRun = w.overRun := by
  rcases w.toldCredit_cases changed b with ⟨rfl, rfl, record, absent⟩ | ⟨run, -⟩
  · have calm : ({ w with creditCond := true } : Switch).tripped = { w with creditCond := true } :=
      if_neg (Nat.not_le.mpr (early.resolve_right nofun))
    rw [toldCredit_enters record absent, calm] at relay ⊢
    unfold entered at relay ⊢
    split at relay
    · exact nomatch relay
    case isFalse stays => rw [if_neg stays]
  · exact run

/-! ### The set and the other fields -/

theorem Switch.toldCredit_lowcr (w : Switch) (changed b : Bool) : (w.toldCredit changed b).lowcr = w.lowcr := by
  unfold toldCredit
  split
  · split
    · rfl
    · rw [moved_followed { w with creditCond := b } .credit b]
  · rfl

theorem Switch.toldCredit_reasons (record : w.awaitRecord = false) : (w.toldCredit true b).reasons.credit = b :=
  (congrArg (fun v : Switch => v.reasons.credit) ((if_pos rfl).trans (if_neg (Bool.eq_false_iff.mp record)))).trans
    (followed_has { w with creditCond := b } .credit b)

theorem Switch.limited_credit (w : Switch) (pending : Bool) : (w.limited pending).reasons.credit = w.reasons.credit := by
  unfold limited
  split
  · show w.tripped.reasons.credit = _
    rw [tripped_reasons]
  · rfl

theorem Switch.limited_lowcr (w : Switch) (pending : Bool) : (w.limited pending).lowcr = w.lowcr := by
  unfold limited
  split
  · rw [moved_tripped w]
  · rfl

/-- A new limit finds no run after an opening has started. -/
theorem Switch.limited_of_no_run (run : w.overRun = 0) (pending : Bool) : w.limited pending = w := by
  unfold limited
  split
  · rw [show w.tripped = w from if_neg (by simp [run])]
    rw [← run]
  · rfl

theorem Switch.countIl_eq (w : Switch) (present : Bool) : w.countIl present = { w with
    ilRun := if w.openPeriod && w.ilRun < 50 then (if present then w.ilRun + 1 else 0) else w.ilRun } := by
  unfold countIl
  split <;> rfl

/-- R141: the overload result reaches the run alone. -/
theorem Switch.countOverload_rest (w : Switch) (o : Overload) :
    w.countOverload o = { w with overRun := (w.countOverload o).overRun } := by
  unfold countOverload
  split <;> rfl

theorem Switch.countOverload_eq (w : Switch) (o : Overload) : w.countOverload o = { w with
    overRun := if w.relay = .closed && !w.held then (if o = .over then min (w.overRun + 1) 250 else 0) else w.overRun } := by
  unfold countOverload
  split <;> rfl

end
end Sys2Proof.Machine

namespace Sys2Proof.Machine

open Sys2Proof

/-! ## The parts of a block's work (R58) -/

/-- The figures of the block in progress. -/
def State.figures (s : State) : BlockFigures :=
  blockFigures s.win.cal s.eng.sl s.eng.sn s.eng.limit (s.tam.latches.magnet = .active)

/-- R58 stages 1 to 7: the Engine's own state, and what the other blocks count. -/
def blockCounted (s : State) : State :=
  ((s.modEng fun e => e.blockStages s.figures).modTam fun m => m.countReport s.figures).modSw fun w =>
    w.countOverload s.figures.overload

/-- The conditions of the credit balance, and the new limit. -/
def blockJudged (s : State) : State :=
  let evaluated := evalConditions s
  limitInForce (if evaluated.eng.pendingLimit.isSome then overloadTrip evaluated else evaluated)

/-- R66, R73: the events of a block. -/
def blockEvents (rate spent : Bool) (s : State) : State :=
  let active := if rate then raiseEvent .rateActive 0 s else s
  if spent then raiseEvent .ecSpent 0 active else active

/-- R66, R73: the requests of a block. -/
def blockRequests (crossed spent : Bool) (s : State) : State :=
  let boundary := if crossed then requestCommit .boundary s else s
  if spent then requestCommit .ec boundary else boundary

/-- R66: the block crosses a kWh boundary. -/
def State.crosses (s : State) : Bool :=
  s.eng.account && crossesBoundary s.eng.cumulative ((s.eng.fine + s.figures.billed) / mWh)

/-- R73: the block spends the emergency credit. -/
def State.spends (s : State) : Bool := s.eng.ec = .inUse && (s.eng.blockStages s.figures).ec = .spent

theorem blockWork_eq (s : State) : blockWork s = blockRequests s.crosses s.spends
    (blockEvents (s.crosses && s.eng.pendingRate.isSome) s.spends (blockJudged (blockCounted s))) := rfl

section
variable {s t u : State}

/-! ### The conditions and the limit (R75, R141) -/

theorem blockJudged_eng (s : State) : (blockJudged s).eng = { s.eng with
    repCredit := s.eng.creditCondition
    lowFlag := s.eng.lowCredit s.win.cal.wLow, repLow := s.eng.lowCredit s.win.cal.wLow
    limit := s.eng.pendingLimit.getD s.eng.limit, pendingLimit := none } := by
  have win : (reportCredit s).win = s.win := Frame.win (l := [.path, .sto, .sw, .tam, .eng]) (by simp) (by decide)
  have evaluated : (evalConditions s).eng = { s.eng with
      repCredit := s.eng.creditCondition
      lowFlag := s.eng.lowCredit s.win.cal.wLow, repLow := s.eng.lowCredit s.win.cal.wLow } := by
    rw [evalConditions, reportLow_eq, win, reportCredit_eng]
    rfl
  have trip : ∀ u, (overloadTrip u).eng = u.eng := fun u =>
    Frame.eng (l := [.path, .sto, .sw, .tam]) (by simp) (by decide)
  have tripped : (if (evalConditions s).eng.pendingLimit.isSome then overloadTrip (evalConditions s)
      else evalConditions s).eng = (evalConditions s).eng := by
    split
    · exact trip _
    · rfl
  unfold blockJudged
  dsimp only
  rw [limitInForce_eq]
  dsimp only
  rw [tripped, evaluated]

theorem blockJudged_sw (s : State) : (blockJudged s).sw =
    ({ s.sw.toldCredit (s.eng.creditCondition != s.eng.repCredit) s.eng.creditCondition with
        lowcr := if s.eng.lowCredit s.win.cal.wLow = s.eng.repLow then s.sw.lowcr
          else s.eng.lowCredit s.win.cal.wLow && s.sup.phase != .held } : Switch).limited s.eng.pendingLimit.isSome := by
  have reported : Frame [.path, .sto, .sw, .tam, .eng] s (reportCredit s) := by simp
  have pending : (evalConditions s).eng.pendingLimit = s.eng.pendingLimit := by
    rw [evalConditions, reportLow_eq, reportCredit_eng]
  have low : (reportCredit s).eng.lowCredit s.win.cal.wLow = s.eng.lowCredit s.win.cal.wLow := by
    rw [reportCredit_eng]
    rfl
  have sw : (evalConditions s).sw = { s.sw.toldCredit (s.eng.creditCondition != s.eng.repCredit) s.eng.creditCondition with
      lowcr := if s.eng.lowCredit s.win.cal.wLow = s.eng.repLow then s.sw.lowcr
        else s.eng.lowCredit s.win.cal.wLow && s.sup.phase != .held } := by
    rw [evalConditions, reportLow_eq, reported.win (by decide), reported.sup (by decide), low, reportCredit_eng,
      reportCredit_sw, Switch.toldCredit_lowcr]
  have trip : ∀ u, (overloadTrip u).eng.pendingLimit = u.eng.pendingLimit := fun u =>
    congrArg Engine.pendingLimit (Frame.eng (l := [.path, .sto, .sw, .tam]) (by simp) (by decide))
  unfold blockJudged Switch.limited
  dsimp only
  rw [limitInForce_eq, pending]
  cases isPending : s.eng.pendingLimit.isSome with
  | true => simp [trip, pending, isPending, sw]
  | false => simp [pending, isPending, sw]

theorem blockJudged_reports (generation : s.sto.generationEnded = false) : OnlyReports s (blockJudged s) := by
  have evaluated : OnlyReports s (evalConditions s) := (OnlyReports.refl generation).reportCredit.of_frame
    (u := reportLow (reportCredit s)) (l := [.eng, .sw]) (by simp) (by decide) (by decide) (by decide)
  unfold blockJudged
  dsimp only
  split
  · exact evaluated.overloadTrip.of_frame (l := [.eng, .sw]) (by simp) (by decide) (by decide) (by decide)
  · exact evaluated.of_frame (l := [.eng, .sw]) (by simp) (by decide) (by decide) (by decide)

theorem blockJudged_log (s : State) : (blockJudged s).log = s.log :=
  Frame.log (l := [.path, .eng, .sto, .sw, .tam]) (by simp [blockJudged]) (by decide)

/-- R127, R128: a reason that changes asks for a SWITCH commit. -/
theorem follow_owes {r : Reason} {want : Bool} (generation : s.sto.generationEnded = false)
    (other : s.sw.reasons.has r ≠ want) : (follow r want s).Owes 6 := by
  unfold follow
  rw [if_neg other]
  split
  · exact enterReason_owes r ((OnlyReports.refl generation).overloadTrip).generation
  · exact reasonLeaves_owes r generation

theorem blockJudged_owes (generation : s.sto.generationEnded = false) (record : s.sw.awaitRecord = false)
    (changed : s.eng.creditCondition ≠ s.eng.repCredit) (other : s.sw.reasons.credit ≠ s.eng.creditCondition) :
    (blockJudged s).Owes 6 := by
  have told : (reportCredit s).Owes 6 := by
    refine (congrArg (State.Owes · 6) ((if_neg changed).trans (if_neg (Bool.eq_false_iff.mp record)))).mpr ?_
    exact follow_owes generation other
  have low : ∀ u, (reportLow u).sto = u.sto := fun u => Frame.sto (l := [.eng, .sw]) (by simp) (by decide)
  have limit : ∀ u, (limitInForce u).sto = u.sto := fun u => Frame.sto (l := [.eng, .sw]) (by simp) (by decide)
  have evaluated : (evalConditions s).Owes 6 := told.of_sto (low _)
  have ends : (evalConditions s).sto.generationEnded = false := by
    rw [evalConditions, low]
    exact (OnlyReports.refl generation).reportCredit.generation
  unfold blockJudged
  dsimp only
  split
  · exact (evaluated.overloadTrip ends).of_sto (limit _)
  · exact evaluated.of_sto (limit _)

/-! ### The events and the requests (R66, R73) -/

theorem OnlyReports.raiseEvent (k : EventKind) (d : Nat) (h : OnlyReports s t) : OnlyReports s (raiseEvent k d t) :=
  h.of_tam (h.toOnlyAsks.raiseEvent k d) (Frame.tam (l := [.path, .log]) (by simp) (by decide))

theorem blockEvents_reports (rate spent : Bool) (h : OnlyReports s t) : OnlyReports s (blockEvents rate spent t) := by
  have active : OnlyReports s (if rate then Machine.raiseEvent .rateActive 0 t else t) := by
    split
    · exact h.raiseEvent _ _
    · exact h
  unfold blockEvents
  dsimp only
  split
  · exact active.raiseEvent _ _
  · exact active

theorem blockRequests_reports (crossed spent : Bool) (h : OnlyReports s t) : OnlyReports s (blockRequests crossed spent t) := by
  have boundary : OnlyReports s (if crossed then Machine.requestCommit .boundary t else t) := by
    split
    · exact h.requestCommit _
    · exact h
  unfold blockRequests
  dsimp only
  split
  · exact boundary.requestCommit _
  · exact boundary

theorem blockRequests_eq (crossed spent : Bool) (s : State) :
    blockRequests crossed spent s = (if spent then requestCommit .ec else id) ((if crossed then requestCommit .boundary else id) s) := by
  cases crossed <;> cases spent <;> rfl

/-- What is owed before a request is owed after it. -/
theorem State.Owes.requestIf {n : Nat} (asked : Bool) (a : Trigger) (generation : s.sto.generationEnded = false) (h : s.Owes n) :
    ((if asked then Machine.requestCommit a else id) s).Owes n := by
  cases asked with
  | false => exact h
  | true => exact h.requestCommit a generation

theorem requestIf_generation (asked : Bool) (a : Trigger) (generation : s.sto.generationEnded = false) :
    ((if asked then requestCommit a else id) s).sto.generationEnded = false := by
  cases asked with
  | false => exact generation
  | true => exact ((OnlyAsks.refl generation).requestCommit a).generation

theorem State.Owes.blockRequests {n : Nat} {crossed spent : Bool} (generation : s.sto.generationEnded = false) (h : s.Owes n) :
    (blockRequests crossed spent s).Owes n := by
  rw [blockRequests_eq]
  exact (h.requestIf _ _ generation).requestIf _ _ (requestIf_generation _ _ generation)

theorem blockRequests_owes_boundary {crossed spent : Bool} (generation : s.sto.generationEnded = false)
    (isCrossed : crossed = true) : (blockRequests crossed spent s).Owes 8 := by
  rw [blockRequests_eq, if_pos isCrossed]
  exact (requestCommit_owes .boundary generation).requestIf _ _ ((OnlyAsks.refl generation).requestCommit .boundary).generation

theorem blockRequests_owes_ec {crossed spent : Bool} (generation : s.sto.generationEnded = false)
    (isSpent : spent = true) : (blockRequests crossed spent s).Owes 7 := by
  rw [blockRequests_eq, if_pos isSpent]
  exact requestCommit_owes .ec (requestIf_generation _ _ generation)

/-- What the event log shows of an event. -/
def EventRec.shown (e : EventRec) : EventKind × Nat × Nat × Int := (e.kind, e.detail.toNat, e.cumulative, e.credit)

/-- R165: the events of a block, as they join the queue. -/
theorem blockEvents_queue (rate spent : Bool) (logs : s.LogsEvents) (room : s.log.queue.length < 7) :
    (blockEvents rate spent s).log.queue.map EventRec.shown = s.log.queue.map EventRec.shown ++
      (if rate then [(.rateActive, 0, s.eng.cumulative, s.eng.credit)] else []) ++
      (if spent then [(.ecSpent, 0, s.eng.cumulative, s.eng.credit)] else []) := by
  have eng : (raiseEvent .rateActive 0 s).eng = s.eng := Frame.eng (l := [.path, .log]) (by simp) (by decide)
  have first := raiseEvent_queue .rateActive 0 logs
  have alone := raiseEvent_queue .ecSpent 0 logs
  have second := raiseEvent_queue .ecSpent 0 (logs.raiseEvent .rateActive 0 room)
  cases rate <;> cases spent <;> simp [blockEvents, first, alone, second, EventRec.shown, eventRec, eng]

end
end Sys2Proof.Machine

namespace Sys2Proof.Machine

open Sys2Proof

section
variable {s t u : State}

/-! ## The end of a block (R44, R51) -/

/-- R154, R155: a run counts blocks above creep alone. -/
theorem countRuns_eq (above met : Bool) (present absent : Nat) : countRuns above met present absent =
    (if above then (if met then min (present + 1) 50 else 0) else present,
      if above then (if met then 0 else min (absent + 1) 50) else absent) := by
  cases above <;> cases met <;> rfl

theorem Tamper.countReport_eq (m : Tamper) (f : BlockFigures) : m.countReport f = { m with
    imbPresent := if f.above then (if f.imbalance then min (m.imbPresent + 1) 50 else 0) else m.imbPresent
    imbAbsent := if f.above then (if f.imbalance then 0 else min (m.imbAbsent + 1) 50) else m.imbAbsent
    revPresent := if f.above then (if f.negative then min (m.revPresent + 1) 50 else 0) else m.revPresent
    revAbsent := if f.above then (if f.negative then 0 else min (m.revAbsent + 1) 50) else m.revAbsent } := by
  unfold Tamper.countReport
  rw [countRuns_eq, countRuns_eq]

theorem blockCounted_tam (s : State) : (blockCounted s).tam = s.tam.countReport s.figures := rfl

/-- R51: the judgement of LOADV, and the starting values of the next block. -/
theorem blockEnd_smp (m : Sampling) (c : Calibration) : (m.judgeLoadv c).newBlock = { m with
    framePos := 0, blockDue := false, blockMax := 0, blockHas := false, ilSum := 0
    loadv := if m.blockHas then m.loadv.count (5, 5) (if c.vOn ≤ m.blockMax then .active else .absent) else m.loadv } := by
  unfold Sampling.judgeLoadv
  split <;> rfl

theorem blockEnd_eq (due : s.smp.blockDue = true) : blockEnd s =
    (((blockWork s).modSw fun w => w.countIl (ilPresent s.win.cal s.smp.ilSum)).modSmp fun m =>
      (m.judgeLoadv (blockWork s).win.cal).newBlock) := if_pos due

/-- The Switch Controller once a block has been counted and handed out, before the IL run (R139). -/
def State.switchAfterBlock (s : State) : Switch :=
  let e := s.eng.blockStages s.figures
  let low := e.lowCredit s.win.cal.wLow
  ({ (s.sw.countOverload s.figures.overload).toldCredit (e.creditCondition != s.eng.repCredit) e.creditCondition with
    lowcr := if low = s.eng.repLow then s.sw.lowcr else low && s.sup.phase != .held } : Switch).limited
      s.eng.pendingLimit.isSome

theorem blockJudged_counted_sw (s : State) : (blockJudged (blockCounted s)).sw = s.switchAfterBlock := by
  obtain ⟨-, -, pending, repCredit, repLow⟩ := blockStages_kept s.eng s.figures
  have lowcr : (s.sw.countOverload s.figures.overload).lowcr = s.sw.lowcr := by rw [Switch.countOverload_eq]
  have counted : blockCounted s = ((s.modEng fun e => e.blockStages s.figures).modTam fun m => m.countReport s.figures).modSw
    fun w => w.countOverload s.figures.overload := rfl
  rw [blockJudged_sw, counted]
  simp only [State.modSw_sw, State.modSw_eng, State.modSw_win, State.modSw_sup, State.modTam_eng, State.modTam_sw,
    State.modTam_win, State.modTam_sup, State.modEng_eng, State.modEng_sw, State.modEng_win, State.modEng_sup,
    pending, repCredit, repLow, lowcr]
  rfl

/-- The Energy Engine after a block. -/
theorem blockJudged_counted_eng (s : State) :
    let e := s.eng.blockStages s.figures
    (blockJudged (blockCounted s)).eng = { e with
      repCredit := e.creditCondition, lowFlag := e.lowCredit s.win.cal.wLow, repLow := e.lowCredit s.win.cal.wLow
      limit := e.pendingLimit.getD e.limit, pendingLimit := none } := blockJudged_eng _

/-- Settles O25, by the parts of a block's work. -/
theorem blockEndIsHandedOut : Obligations.BlockEndIsHandedOut := by
  unfold Obligations.BlockEndIsHandedOut
  intro s settled due c el en above differ negative tooMuch billed k crosses counted trips
  let s' := clearLines s
  let f := s.figures
  let e := s.eng.blockStages f
  let w := s.sw.countOverload f.overload
  let x := s.switchAfterBlock
  let j := blockJudged (blockCounted s')
  let v := blockEvents (s.crosses && s.eng.pendingRate.isSome) s.spends j
  let q := blockRequests s.crosses s.spends v
  have work : blockWork s' = q := blockWork_eq s'
  have judged : OnlyReports (blockCounted s') j := blockJudged_reports settled.generation
  have said : OnlyReports (blockCounted s') v := blockEvents_reports _ _ judged
  have asked : OnlyReports (blockCounted s') q := blockRequests_reports _ _ said
  have after : Frame [.path, .sto, .log] j q := by simp [q, v, blockRequests, blockEvents]
  have frame : Frame [.path, .eng, .sto, .sw, .tam, .log] s' q := by
    rw [← work]
    simp
  let t := (q.modSw fun w => w.countIl (ilPresent c s.smp.ilSum)).modSmp fun m => (m.judgeLoadv q.win.cal).newBlock
  have run : blockEnd s' = t := (blockEnd_eq (s := s') due).trans (by rw [work]; rfl)
  have eng : t.eng = { e with
      repCredit := e.creditCondition, lowFlag := e.lowCredit c.wLow, repLow := e.lowCredit c.wLow
      limit := e.pendingLimit.getD e.limit, pendingLimit := none } :=
    (after.eng (by decide)).trans (blockJudged_counted_eng s')
  have sw : t.sw = x.countIl (ilPresent c s.smp.ilSum) :=
    congrArg (fun w => Switch.countIl w (ilPresent c s.smp.ilSum))
      ((after.sw (by decide)).trans (blockJudged_counted_sw s'))
  have smp : t.smp = _ := (blockEnd_smp q.smp q.win.cal)
  rw [frame.smp (by decide), frame.win (by decide)] at smp
  have next : exec .blockEnd s = .next t :=
    runCommand_asks (f := blockEnd) settled run ⟨asked.generation, asked.path, asked.store⟩
      (congrArg Supply.holdDue (frame.sup (by decide))) (congrArg Supply.restartDue (frame.sup (by decide)))
  have tam : t.tam = { s.tam with
      imbPresent := if f.above then (if f.imbalance then min (s.tam.imbPresent + 1) 50 else 0) else s.tam.imbPresent
      imbAbsent := if f.above then (if f.imbalance then 0 else min (s.tam.imbAbsent + 1) 50) else s.tam.imbAbsent
      revPresent := if f.above then (if f.negative then min (s.tam.revPresent + 1) 50 else 0) else s.tam.revPresent
      revAbsent := if f.above then (if f.negative then 0 else min (s.tam.revAbsent + 1) 50) else s.tam.revAbsent
      bypass := t.tam.bypass, latches := { s.tam.latches with bypass := t.tam.latches.bypass } } := by
    refine asked.tamper.trans ?_
    rw [blockCounted_tam, Tamper.countReport_eq]
    rfl
  have isAbove : f.above = true ↔ above := blockFigures_above _ _ _ _ _
  have isDiffer : f.imbalance = true ↔ differ := blockFigures_imbalance _ _ _ _ _
  have isNegative : f.negative = true ↔ negative := blockFigures_negative _ _ _ _ _
  have isTooMuch : f.overload = .over ↔ tooMuch := blockFigures_over _ _ _ _ _
  have isBilled : f.billed = billed := (blockFigures_billed _ _ _ _ _).trans (if_congr decide_eq_true_iff rfl rfl)
  have isCrosses : s.crosses = true ↔ crosses := by
    refine Bool.and_eq_true_iff.trans (and_congr Iff.rfl ?_)
    rw [isBilled]
    exact crossesBoundary_iff _ _
  have isSpends : s.spends = true ↔ s.eng.ec = .inUse ∧ t.eng.ec = .spent := by
    rw [eng]
    exact Bool.and_eq_true_iff.trans (and_congr decide_eq_true_iff decide_eq_true_iff)
  have isActive : (s.crosses && s.eng.pendingRate.isSome) = true ↔ crosses ∧ s.eng.pendingRate.isSome = true :=
    Bool.and_eq_true_iff.trans (and_congr isCrosses Iff.rfl)
  have jLog : j.log = s.log := blockJudged_log _
  have requested : Frame [.path, .sto] v q := by simp [q, blockRequests]
  have tLog : t.log = v.log := requested.log (by decide)
  have tEng : t.eng = j.eng := after.eng (by decide)
  have isCounted : (s.sw.relay = .closed && !s.sw.held) = true ↔ counted := by simp [counted]
  have wRun : w.overRun = if counted then (if tooMuch then min (s.sw.overRun + 1) 250 else 0) else s.sw.overRun := by
    refine (congrArg Switch.overRun (Switch.countOverload_eq s.sw f.overload)).trans ?_
    exact if_congr isCounted (if_congr isTooMuch rfl rfl) rfl
  have isTrips : trips ↔ 250 ≤ w.overRun := by rw [wRun]
  have wRest : w = { s.sw with overRun := w.overRun } := Switch.countOverload_rest _ _
  have wRecord : w.awaitRecord = s.sw.awaitRecord := by rw [wRest]
  have wReasons : w.reasons = s.sw.reasons := by rw [wRest]
  let changed := e.creditCondition != s.eng.repCredit
  let told := w.toldCredit changed e.creditCondition
  let low := e.lowCredit c.wLow
  let handed : Switch := { told with lowcr := if low = s.eng.repLow then s.sw.lowcr else low && s.sup.phase != .held }
  have isChanged : t.eng.repCredit ≠ s.eng.repCredit ↔ changed = true := by
    rw [eng]
    exact bne_iff_ne.symm
  have noLimit : s.eng.pendingLimit = none → x = handed := fun none => by
    show Switch.limited handed s.eng.pendingLimit.isSome = handed
    rw [none]
    rfl
  obtain ⟨account, -, pending, repCredit, -⟩ := blockStages_kept s.eng f
  refine ⟨t, next, ?frame, smp, ?imbPresent, ?imbAbsent, ?revPresent, ?revAbsent, ?run, ?newLimit, ?ilRun, ?condition,
    ?credit, ?creditOwed, ?opens, ?same, ?trips, ?lowFlag, ?repLow, ?lowSame, ?lowChanged, ?events, ?silent, ?boundary,
    ?ec, ?spendDue⟩
  case frame =>
    exact State.eq_of_blocks (frame.pins (by decide)) (frame.lines (by decide)) asked.path (frame.win (by decide)) rfl rfl
      asked.store (frame.dec (by decide)) rfl (by rw [tam]) rfl (frame.sup (by decide)) (frame.port (by decide))
      (frame.free (by decide)) (frame.pending (by decide))
  case imbPresent =>
    rw [tam]
    exact if_congr isAbove (if_congr isDiffer rfl rfl) rfl
  case imbAbsent =>
    rw [tam]
    exact if_congr isAbove (if_congr isDiffer rfl rfl) rfl
  case revPresent =>
    rw [tam]
    exact if_congr isAbove (if_congr isNegative rfl rfl) rfl
  case revAbsent =>
    rw [tam]
    exact if_congr isAbove (if_congr isNegative rfl rfl) rfl
  case run =>
    intro isC none closed early
    have same : told.relay = .closed := by
      rw [sw, Switch.countIl_eq, noLimit none] at closed
      exact closed
    have early : w.overRun < 250 ∨ changed = false := by
      rw [isTrips, Nat.not_le] at early
      exact early.imp_right fun same => Bool.eq_false_iff.mpr (isChanged.not.mp (not_not.mpr same))
    rw [sw, Switch.countIl_eq, noLimit none]
    exact (Switch.toldCredit_overRun early same).trans (wRun.trans (if_pos isC))
  case newLimit =>
    intro some
    rw [sw, Switch.countIl_eq]
    exact congrArg Switch.overRun (if_pos some : handed.limited s.eng.pendingLimit.isSome = _)
  case ilRun =>
    intro period still
    have kept : w.PeriodKept x :=
      (w.periodKept_toldCredit changed e.creditCondition).trans (handed.periodKept_limited s.eng.pendingLimit.isSome)
    have xPeriod : x.openPeriod = true := by
      rw [sw, Switch.countIl_eq] at still
      exact still
    have xRun : x.ilRun = s.sw.ilRun := (kept xPeriod).2.trans (by rw [wRest])
    rw [sw, Switch.countIl_eq]
    show (if x.openPeriod && x.ilRun < 50 then _ else x.ilRun) = _
    rw [xPeriod, xRun, if_congr (ilPresent_iff c s.smp.ilSum) rfl rfl]
    by_cases ended : 50 ≤ s.sw.ilRun
    · rw [if_pos ended, if_neg (by simpa using ended)]
    · rw [if_neg ended, if_pos (by simpa using ended)]
  case condition =>
    rw [eng, ← account]
    exact creditCondition_eq e
  case credit =>
    intro record differs
    have isC := isChanged.mp differs
    rw [sw, Switch.countIl_eq, eng]
    show (handed.limited s.eng.pendingLimit.isSome).reasons.credit = e.creditCondition
    rw [Switch.limited_credit]
    show (w.toldCredit changed e.creditCondition).reasons.credit = e.creditCondition
    rw [isC, Switch.toldCredit_reasons (wRecord.trans record)]
  case creditOwed =>
    intro record differs other
    rw [eng] at differs other
    have owes : j.Owes 6 := blockJudged_owes (s := blockCounted s') settled.generation (wRecord.trans record)
      (fun same => differs (same.trans repCredit)) (fun same => other ((congrArg Reasons.credit wReasons).symm.trans same))
    exact State.Owes.blockRequests said.generation
      (owes.of_sto (Frame.sto (l := [.path, .log]) (by simp [v, blockEvents]) (by decide)))
  case same =>
    intro same none
    have notChanged : changed = false := Bool.eq_false_iff.mpr (isChanged.not.mp (not_not.mpr same))
    have quiet : told = w := by
      show w.toldCredit changed _ = w
      rw [notChanged]
      rfl
    rw [sw, Switch.countIl_eq, noLimit none]
    show told.reasons = _ ∧ told.op = _
    rw [quiet, wRest]
    exact ⟨rfl, rfl⟩
  case lowFlag =>
    rw [eng, ← account]
    exact lowCredit_eq e c.wLow
  case repLow => rw [eng]
  case spendDue =>
    rw [eng]
    exact blockStages_spendDue _ _
  case boundary =>
    exact fun isC => blockRequests_owes_boundary said.generation (isCrosses.mpr isC)
  case ec =>
    exact fun inUse spent => blockRequests_owes_ec said.generation (isSpends.mpr ⟨inUse, spent⟩)
  case opens =>
    intro record before after absent isC op
    obtain ⟨relay, free⟩ := isC
    have condition : e.creditCondition = true := by
      rw [eng] at after
      exact after
    have isChanged : changed = true := isChanged.mp (by rw [before, after]; nofun)
    have opens : w.opens = true := by
      rw [wRest]
      simp [Switch.opens, Switch.mayStart, relay, free, op]
    have both : told = w.toldCredit true true := by
      show w.toldCredit changed e.creditCondition = _
      rw [isChanged, condition]
    have enters := Switch.toldCredit_opens (wRecord.trans record) (by rw [wReasons]; exact absent) opens
    rw [← both] at enters
    obtain ⟨opening, disarmed, noRun, operation⟩ := enters
    have handedOn : x = handed := handed.limited_of_no_run noRun _
    rw [sw, Switch.countIl_eq, handedOn]
    refine ⟨opening, disarmed, operation.trans ?_⟩
    refine congrArg (fun r => some (startedOp (some r))) (if_congr (and_congr isTrips.symm ?_) rfl rfl)
    rw [← wReasons]
  case trips =>
    intro isDue clears
    have tripped : w.HasTripped x := by
      refine Switch.block_trips (isTrips.mp isDue) ?_ _
      refine clears.imp_left fun ⟨record, absent, before, after⟩ => ?_
      refine ⟨wRecord.trans record, by rw [wReasons]; exact absent, isChanged.mp (by rw [before, after]; nofun), ?_⟩
      rw [eng] at after
      exact after
    rw [sw, Switch.countIl_eq]
    exact ⟨tripped.limit, tripped.retry.trans (by rw [wRest]), tripped.overRun⟩
  case lowSame =>
    intro same
    rw [eng] at same
    rw [sw, Switch.countIl_eq]
    exact (handed.limited_lowcr _).trans (if_pos same)
  case lowChanged =>
    intro differs
    rw [eng] at differs ⊢
    rw [sw, Switch.countIl_eq]
    exact (handed.limited_lowcr _).trans (if_neg differs)
  case events =>
    intro recovered ring room
    have logs : j.LogsEvents := State.LogsEvents.of_log (s := s) ⟨recovered, ring, Nat.lt_succ_of_lt room⟩ jLog
    have queue := blockEvents_queue (s.crosses && s.eng.pendingRate.isSome) s.spends logs (by rw [jLog]; exact room)
    rw [jLog, if_congr isActive rfl rfl, if_congr isSpends rfl rfl] at queue
    rw [tLog, tEng]
    rw [tEng] at queue
    exact queue
  case silent =>
    intro notActive notSpent
    rw [tLog]
    refine Eq.trans ?_ jLog
    show (blockEvents (s.crosses && s.eng.pendingRate.isSome) s.spends j).log = j.log
    rw [Bool.eq_false_iff.mpr (isActive.not.mpr notActive), Bool.eq_false_iff.mpr (isSpends.not.mpr notSpent)]
    rfl

end
end Sys2Proof.Machine
